-- ==== Sys2Proof/Word.lean ====
section
/-! DEFINITION. The widths of the machine (spec/00_scope.md R11): a word is 32 bits, a halfword 16,
a byte 8. Values are bit vectors where the spec treats them as bits; counts, times and cycle costs
are natural numbers. -/

namespace Sys2Proof

/-- A 32-bit word (R11): a register, an address, an ARM instruction. -/
abbrev Word := BitVec 32

/-- A 16-bit halfword (R11): a Thumb instruction. -/
abbrev Half := BitVec 16

/-- An 8-bit byte (R11). -/
abbrev Byte := BitVec 8

/-- A register number, 0 to 15 (R101): 13 is SP, 14 is LR, 15 is the program counter. -/
abbrev Reg := BitVec 4

/-- A register number of a Thumb low-register field, R0 to R7 (R900). -/
abbrev LowReg := BitVec 3

end Sys2Proof
end

