-- ==== Sys2Proof/Syntax.lean ====
section
/-! DEFINITION. The instruction syntax: one constructor per row of spec/opcode_table.json (224 rows).

A constructor's fields are ALL the bits the row's encoding leaves open, highest bits first, so that no
bit of an instruction word is dropped: the operand fields of spec/30_encoding.md R302 and R330, the
should-be-zero and should-be-one fields (`sbz`, `sbo`; a wrong value there is UNPREDICTABLE, R342, and the
meaning faults), and the free bits of an undefined or skipped row. Names: `cond` the condition (R401);
`sf` the S bit; `st` the shift type (bits 6:5); `fm` the MSR field mask; `p u w n` the P, U, W, N bits;
`r` the R bit; `h`, `h1`, `h2` the H bits; `x`, `y` the halfword selectors; `list` the register list;
`cp`, `opc`, `opc1`, `opc2`, `crn`, `crd`, `crm` the coprocessor fields; `immHi : immLo` a split immediate. -/

namespace Sys2Proof

/-- One instruction, ARM or Thumb: one constructor per row of the opcode table. -/
inductive Instr where
  -- ARM data processing (R302, R512-R535): immediate-shift, register-shift and immediate forms
  | andImmShift (cond : BitVec 4) (sf : Bool) (rn rd : Reg) (imm : BitVec 5) (st : BitVec 2) (rm : Reg)
  | andRegShift (cond : BitVec 4) (sf : Bool) (rn rd rs : Reg) (st : BitVec 2) (rm : Reg)
  | andImm (cond : BitVec 4) (sf : Bool) (rn rd : Reg) (rot : BitVec 4) (imm : BitVec 8)
  | eorImmShift (cond : BitVec 4) (sf : Bool) (rn rd : Reg) (imm : BitVec 5) (st : BitVec 2) (rm : Reg)
  | eorRegShift (cond : BitVec 4) (sf : Bool) (rn rd rs : Reg) (st : BitVec 2) (rm : Reg)
  | eorImm (cond : BitVec 4) (sf : Bool) (rn rd : Reg) (rot : BitVec 4) (imm : BitVec 8)
  | subImmShift (cond : BitVec 4) (sf : Bool) (rn rd : Reg) (imm : BitVec 5) (st : BitVec 2) (rm : Reg)
  | subRegShift (cond : BitVec 4) (sf : Bool) (rn rd rs : Reg) (st : BitVec 2) (rm : Reg)
  | subImm (cond : BitVec 4) (sf : Bool) (rn rd : Reg) (rot : BitVec 4) (imm : BitVec 8)
  | rsbImmShift (cond : BitVec 4) (sf : Bool) (rn rd : Reg) (imm : BitVec 5) (st : BitVec 2) (rm : Reg)
  | rsbRegShift (cond : BitVec 4) (sf : Bool) (rn rd rs : Reg) (st : BitVec 2) (rm : Reg)
  | rsbImm (cond : BitVec 4) (sf : Bool) (rn rd : Reg) (rot : BitVec 4) (imm : BitVec 8)
  | addImmShift (cond : BitVec 4) (sf : Bool) (rn rd : Reg) (imm : BitVec 5) (st : BitVec 2) (rm : Reg)
  | addRegShift (cond : BitVec 4) (sf : Bool) (rn rd rs : Reg) (st : BitVec 2) (rm : Reg)
  | addImm (cond : BitVec 4) (sf : Bool) (rn rd : Reg) (rot : BitVec 4) (imm : BitVec 8)
  | adcImmShift (cond : BitVec 4) (sf : Bool) (rn rd : Reg) (imm : BitVec 5) (st : BitVec 2) (rm : Reg)
  | adcRegShift (cond : BitVec 4) (sf : Bool) (rn rd rs : Reg) (st : BitVec 2) (rm : Reg)
  | adcImm (cond : BitVec 4) (sf : Bool) (rn rd : Reg) (rot : BitVec 4) (imm : BitVec 8)
  | sbcImmShift (cond : BitVec 4) (sf : Bool) (rn rd : Reg) (imm : BitVec 5) (st : BitVec 2) (rm : Reg)
  | sbcRegShift (cond : BitVec 4) (sf : Bool) (rn rd rs : Reg) (st : BitVec 2) (rm : Reg)
  | sbcImm (cond : BitVec 4) (sf : Bool) (rn rd : Reg) (rot : BitVec 4) (imm : BitVec 8)
  | rscImmShift (cond : BitVec 4) (sf : Bool) (rn rd : Reg) (imm : BitVec 5) (st : BitVec 2) (rm : Reg)
  | rscRegShift (cond : BitVec 4) (sf : Bool) (rn rd rs : Reg) (st : BitVec 2) (rm : Reg)
  | rscImm (cond : BitVec 4) (sf : Bool) (rn rd : Reg) (rot : BitVec 4) (imm : BitVec 8)
  | tstImmShift (cond : BitVec 4) (rn : Reg) (sbz : BitVec 4) (imm : BitVec 5) (st : BitVec 2) (rm : Reg)
  | tstRegShift (cond : BitVec 4) (rn : Reg) (sbz : BitVec 4) (rs : Reg) (st : BitVec 2) (rm : Reg)
  | tstImm (cond : BitVec 4) (rn : Reg) (sbz rot : BitVec 4) (imm : BitVec 8)
  | teqImmShift (cond : BitVec 4) (rn : Reg) (sbz : BitVec 4) (imm : BitVec 5) (st : BitVec 2) (rm : Reg)
  | teqRegShift (cond : BitVec 4) (rn : Reg) (sbz : BitVec 4) (rs : Reg) (st : BitVec 2) (rm : Reg)
  | teqImm (cond : BitVec 4) (rn : Reg) (sbz rot : BitVec 4) (imm : BitVec 8)
  | cmpImmShift (cond : BitVec 4) (rn : Reg) (sbz : BitVec 4) (imm : BitVec 5) (st : BitVec 2) (rm : Reg)
  | cmpRegShift (cond : BitVec 4) (rn : Reg) (sbz : BitVec 4) (rs : Reg) (st : BitVec 2) (rm : Reg)
  | cmpImm (cond : BitVec 4) (rn : Reg) (sbz rot : BitVec 4) (imm : BitVec 8)
  | cmnImmShift (cond : BitVec 4) (rn : Reg) (sbz : BitVec 4) (imm : BitVec 5) (st : BitVec 2) (rm : Reg)
  | cmnRegShift (cond : BitVec 4) (rn : Reg) (sbz : BitVec 4) (rs : Reg) (st : BitVec 2) (rm : Reg)
  | cmnImm (cond : BitVec 4) (rn : Reg) (sbz rot : BitVec 4) (imm : BitVec 8)
  | orrImmShift (cond : BitVec 4) (sf : Bool) (rn rd : Reg) (imm : BitVec 5) (st : BitVec 2) (rm : Reg)
  | orrRegShift (cond : BitVec 4) (sf : Bool) (rn rd rs : Reg) (st : BitVec 2) (rm : Reg)
  | orrImm (cond : BitVec 4) (sf : Bool) (rn rd : Reg) (rot : BitVec 4) (imm : BitVec 8)
  | movImmShift (cond : BitVec 4) (sf : Bool) (sbz : BitVec 4) (rd : Reg) (imm : BitVec 5) (st : BitVec 2) (rm : Reg)
  | movRegShift (cond : BitVec 4) (sf : Bool) (sbz : BitVec 4) (rd rs : Reg) (st : BitVec 2) (rm : Reg)
  | movImm (cond : BitVec 4) (sf : Bool) (sbz : BitVec 4) (rd : Reg) (rot : BitVec 4) (imm : BitVec 8)
  | bicImmShift (cond : BitVec 4) (sf : Bool) (rn rd : Reg) (imm : BitVec 5) (st : BitVec 2) (rm : Reg)
  | bicRegShift (cond : BitVec 4) (sf : Bool) (rn rd rs : Reg) (st : BitVec 2) (rm : Reg)
  | bicImm (cond : BitVec 4) (sf : Bool) (rn rd : Reg) (rot : BitVec 4) (imm : BitVec 8)
  | mvnImmShift (cond : BitVec 4) (sf : Bool) (sbz : BitVec 4) (rd : Reg) (imm : BitVec 5) (st : BitVec 2) (rm : Reg)
  | mvnRegShift (cond : BitVec 4) (sf : Bool) (sbz : BitVec 4) (rd rs : Reg) (st : BitVec 2) (rm : Reg)
  | mvnImm (cond : BitVec 4) (sf : Bool) (sbz : BitVec 4) (rd : Reg) (rot : BitVec 4) (imm : BitVec 8)
  -- ARM status access, CLZ and saturating arithmetic (R540-R553)
  | mrs (cond : BitVec 4) (r : Bool) (sbo : BitVec 4) (rd : Reg) (sbz1 sbz2 : BitVec 4)
  | msrReg (cond : BitVec 4) (r : Bool) (fm sbo sbz : BitVec 4) (rm : Reg)
  | msrImm (cond : BitVec 4) (r : Bool) (fm sbo rot : BitVec 4) (imm : BitVec 8)
  | clz (cond sbo1 : BitVec 4) (rd : Reg) (sbo2 : BitVec 4) (rm : Reg)
  | qadd (cond : BitVec 4) (rn rd : Reg) (sbz : BitVec 4) (rm : Reg)
  | qsub (cond : BitVec 4) (rn rd : Reg) (sbz : BitVec 4) (rm : Reg)
  | qdadd (cond : BitVec 4) (rn rd : Reg) (sbz : BitVec 4) (rm : Reg)
  | qdsub (cond : BitVec 4) (rn rd : Reg) (sbz : BitVec 4) (rm : Reg)
  -- ARM multiplies (R600-R614)
  | mul (cond : BitVec 4) (sf : Bool) (rd : Reg) (sbz : BitVec 4) (rs rm : Reg)
  | mla (cond : BitVec 4) (sf : Bool) (rd rn rs rm : Reg)
  | umull (cond : BitVec 4) (sf : Bool) (rdHi rdLo rs rm : Reg)
  | umlal (cond : BitVec 4) (sf : Bool) (rdHi rdLo rs rm : Reg)
  | smull (cond : BitVec 4) (sf : Bool) (rdHi rdLo rs rm : Reg)
  | smlal (cond : BitVec 4) (sf : Bool) (rdHi rdLo rs rm : Reg)
  | smlaXY (cond : BitVec 4) (rd rn rs : Reg) (y x : Bool) (rm : Reg)
  | smlawY (cond : BitVec 4) (rd rn rs : Reg) (y : Bool) (rm : Reg)
  | smulwY (cond : BitVec 4) (rd : Reg) (sbz : BitVec 4) (rs : Reg) (y : Bool) (rm : Reg)
  | smlalXY (cond : BitVec 4) (rdHi rdLo rs : Reg) (y x : Bool) (rm : Reg)
  | smulXY (cond : BitVec 4) (rd : Reg) (sbz : BitVec 4) (rs : Reg) (y x : Bool) (rm : Reg)
  -- ARM swap (R700, R701)
  | swp (cond : BitVec 4) (rn rd : Reg) (sbz : BitVec 4) (rm : Reg)
  | swpb (cond : BitVec 4) (rn rd : Reg) (sbz : BitVec 4) (rm : Reg)
  -- ARM word and byte loads and stores (R651-R659)
  | ldrImmPre (cond : BitVec 4) (u w : Bool) (rn rd : Reg) (imm : BitVec 12)
  | ldrImmPost (cond : BitVec 4) (u : Bool) (rn rd : Reg) (imm : BitVec 12)
  | ldrRegPre (cond : BitVec 4) (u w : Bool) (rn rd : Reg) (imm : BitVec 5) (st : BitVec 2) (rm : Reg)
  | ldrRegPost (cond : BitVec 4) (u : Bool) (rn rd : Reg) (imm : BitVec 5) (st : BitVec 2) (rm : Reg)
  | ldrbImmPre (cond : BitVec 4) (u w : Bool) (rn rd : Reg) (imm : BitVec 12)
  | ldrbImmPost (cond : BitVec 4) (u : Bool) (rn rd : Reg) (imm : BitVec 12)
  | ldrbRegPre (cond : BitVec 4) (u w : Bool) (rn rd : Reg) (imm : BitVec 5) (st : BitVec 2) (rm : Reg)
  | ldrbRegPost (cond : BitVec 4) (u : Bool) (rn rd : Reg) (imm : BitVec 5) (st : BitVec 2) (rm : Reg)
  | strImmPre (cond : BitVec 4) (u w : Bool) (rn rd : Reg) (imm : BitVec 12)
  | strImmPost (cond : BitVec 4) (u : Bool) (rn rd : Reg) (imm : BitVec 12)
  | strRegPre (cond : BitVec 4) (u w : Bool) (rn rd : Reg) (imm : BitVec 5) (st : BitVec 2) (rm : Reg)
  | strRegPost (cond : BitVec 4) (u : Bool) (rn rd : Reg) (imm : BitVec 5) (st : BitVec 2) (rm : Reg)
  | strbImmPre (cond : BitVec 4) (u w : Bool) (rn rd : Reg) (imm : BitVec 12)
  | strbImmPost (cond : BitVec 4) (u : Bool) (rn rd : Reg) (imm : BitVec 12)
  | strbRegPre (cond : BitVec 4) (u w : Bool) (rn rd : Reg) (imm : BitVec 5) (st : BitVec 2) (rm : Reg)
  | strbRegPost (cond : BitVec 4) (u : Bool) (rn rd : Reg) (imm : BitVec 5) (st : BitVec 2) (rm : Reg)
  | ldrtImm (cond : BitVec 4) (u : Bool) (rn rd : Reg) (imm : BitVec 12)
  | ldrtReg (cond : BitVec 4) (u : Bool) (rn rd : Reg) (imm : BitVec 5) (st : BitVec 2) (rm : Reg)
  | ldrbtImm (cond : BitVec 4) (u : Bool) (rn rd : Reg) (imm : BitVec 12)
  | ldrbtReg (cond : BitVec 4) (u : Bool) (rn rd : Reg) (imm : BitVec 5) (st : BitVec 2) (rm : Reg)
  | strtImm (cond : BitVec 4) (u : Bool) (rn rd : Reg) (imm : BitVec 12)
  | strtReg (cond : BitVec 4) (u : Bool) (rn rd : Reg) (imm : BitVec 5) (st : BitVec 2) (rm : Reg)
  | strbtImm (cond : BitVec 4) (u : Bool) (rn rd : Reg) (imm : BitVec 12)
  | strbtReg (cond : BitVec 4) (u : Bool) (rn rd : Reg) (imm : BitVec 5) (st : BitVec 2) (rm : Reg)
  -- ARM halfword, signed-byte and doubleword loads and stores (R665-R671)
  | strhImm (cond : BitVec 4) (p u w : Bool) (rn rd : Reg) (immHi immLo : BitVec 4)
  | strhReg (cond : BitVec 4) (p u w : Bool) (rn rd : Reg) (sbz : BitVec 4) (rm : Reg)
  | ldrdImm (cond : BitVec 4) (p u w : Bool) (rn rd : Reg) (immHi immLo : BitVec 4)
  | ldrdReg (cond : BitVec 4) (p u w : Bool) (rn rd : Reg) (sbz : BitVec 4) (rm : Reg)
  | strdImm (cond : BitVec 4) (p u w : Bool) (rn rd : Reg) (immHi immLo : BitVec 4)
  | strdReg (cond : BitVec 4) (p u w : Bool) (rn rd : Reg) (sbz : BitVec 4) (rm : Reg)
  | ldrhImm (cond : BitVec 4) (p u w : Bool) (rn rd : Reg) (immHi immLo : BitVec 4)
  | ldrhReg (cond : BitVec 4) (p u w : Bool) (rn rd : Reg) (sbz : BitVec 4) (rm : Reg)
  | ldrsbImm (cond : BitVec 4) (p u w : Bool) (rn rd : Reg) (immHi immLo : BitVec 4)
  | ldrsbReg (cond : BitVec 4) (p u w : Bool) (rn rd : Reg) (sbz : BitVec 4) (rm : Reg)
  | ldrshImm (cond : BitVec 4) (p u w : Bool) (rn rd : Reg) (immHi immLo : BitVec 4)
  | ldrshReg (cond : BitVec 4) (p u w : Bool) (rn rd : Reg) (sbz : BitVec 4) (rm : Reg)
  -- ARM load and store multiple (R680-R685)
  | ldm1 (cond : BitVec 4) (p u w : Bool) (rn : Reg) (list : BitVec 16)
  | ldm2 (cond : BitVec 4) (p u w : Bool) (rn : Reg) (list : BitVec 15)
  | ldm3 (cond : BitVec 4) (p u w : Bool) (rn : Reg) (list : BitVec 15)
  | stm1 (cond : BitVec 4) (p u w : Bool) (rn : Reg) (list : BitVec 16)
  | stm2 (cond : BitVec 4) (p u w : Bool) (rn : Reg) (list : BitVec 16)
  -- ARM branches, software interrupt and breakpoint (R750-R757)
  | b (cond : BitVec 4) (imm : BitVec 24)
  | bl (cond : BitVec 4) (imm : BitVec 24)
  | blxImm (h : Bool) (imm : BitVec 24)
  | bx (cond : BitVec 4) (sbo : BitVec 12) (rm : Reg)
  | bxj (cond : BitVec 4) (sbo : BitVec 12) (rm : Reg)
  | blxReg (cond : BitVec 4) (sbo : BitVec 12) (rm : Reg)
  | swi (cond : BitVec 4) (imm : BitVec 24)
  | bkpt (cond : BitVec 4) (immHi : BitVec 12) (immLo : BitVec 4)
  -- ARM coprocessor instructions (R800-R807)
  | ldcPre (cond : BitVec 4) (u n w : Bool) (rn : Reg) (crd cp : BitVec 4) (imm : BitVec 8)
  | ldcPost (cond : BitVec 4) (u n : Bool) (rn : Reg) (crd cp : BitVec 4) (imm : BitVec 8)
  | ldcUnindexed (cond : BitVec 4) (n : Bool) (rn : Reg) (crd cp : BitVec 4) (opt : BitVec 8)
  | stcPre (cond : BitVec 4) (u n w : Bool) (rn : Reg) (crd cp : BitVec 4) (imm : BitVec 8)
  | stcPost (cond : BitVec 4) (u n : Bool) (rn : Reg) (crd cp : BitVec 4) (imm : BitVec 8)
  | stcUnindexed (cond : BitVec 4) (n : Bool) (rn : Reg) (crd cp : BitVec 4) (opt : BitVec 8)
  | mcrr (cond : BitVec 4) (rn rd : Reg) (cp opc crm : BitVec 4)
  | mrrc (cond : BitVec 4) (rn rd : Reg) (cp opc crm : BitVec 4)
  | cdp (cond opc1 crn crd cp : BitVec 4) (opc2 : BitVec 3) (crm : BitVec 4)
  | mcr (cond : BitVec 4) (opc1 : BitVec 3) (crn : BitVec 4) (rd : Reg) (cp : BitVec 4) (opc2 : BitVec 3) (crm : BitVec 4)
  | mrc (cond : BitVec 4) (opc1 : BitVec 3) (crn : BitVec 4) (rd : Reg) (cp : BitVec 4) (opc2 : BitVec 3) (crm : BitVec 4)
  -- The cond = 1111 space that fails the condition check (R319, R705, R808-R812)
  | pldImm (u : Bool) (rn : Reg) (sbo : BitVec 4) (imm : BitVec 12)
  | pldReg (u : Bool) (rn : Reg) (sbo : BitVec 4) (imm : BitVec 5) (st : BitVec 2) (rm : Reg)
  | cdp2 (opc1 crn crd cp : BitVec 4) (opc2 : BitVec 3) (crm : BitVec 4)
  | mcr2 (opc1 : BitVec 3) (crn : BitVec 4) (rd : Reg) (cp : BitVec 4) (opc2 : BitVec 3) (crm : BitVec 4)
  | mrc2 (opc1 : BitVec 3) (crn : BitVec 4) (rd : Reg) (cp : BitVec 4) (opc2 : BitVec 3) (crm : BitVec 4)
  | ldc2 (p u n w : Bool) (rn : Reg) (crd cp : BitVec 4) (imm : BitVec 8)
  | stc2 (p u n w : Bool) (rn : Reg) (crd cp : BitVec 4) (imm : BitVec 8)
  | nvSkipped (body : BitVec 28)
  -- ARM undefined space (R340, R760); `f1`, `f2`, ... are the runs of bits the row leaves free, highest first
  | undefMulSpace01 (cond : BitVec 4) (f1 : BitVec 14) (f2 : BitVec 4)
  | undefSwapSpaceA (cond : BitVec 4) (f1 : BitVec 1) (f2 : BitVec 12) (f3 : BitVec 4)
  | undefSwapSpaceB (cond : BitVec 4) (f1 : BitVec 1) (f2 : BitVec 13) (f3 : BitVec 4)
  | undefSwapSpaceC (cond : BitVec 4) (f1 : BitVec 15) (f2 : BitVec 4)
  | undefMisc0001 (cond : BitVec 4) (f1 : BitVec 1) (f2 : BitVec 12) (f3 : BitVec 4)
  | undefMisc0010A (cond : BitVec 4) (f1 : BitVec 1) (f2 : BitVec 12) (f3 : BitVec 4)
  | undefMisc0010B (cond : BitVec 4) (f1 : BitVec 12) (f2 : BitVec 4)
  | undefMisc0011A (cond : BitVec 4) (f1 : BitVec 1) (f2 : BitVec 12) (f3 : BitVec 4)
  | undefMisc0011B (cond : BitVec 4) (f1 : BitVec 12) (f2 : BitVec 4)
  | undefMisc0100 (cond : BitVec 4) (f1 : BitVec 2) (f2 : BitVec 12) (f3 : BitVec 4)
  | undefMisc0110 (cond : BitVec 4) (f1 : BitVec 2) (f2 : BitVec 12) (f3 : BitVec 4)
  | undefMisc0111A (cond : BitVec 4) (f1 : BitVec 1) (f2 : BitVec 12) (f3 : BitVec 4)
  | undefMisc0111B (cond : BitVec 4) (f1 : BitVec 12) (f2 : BitVec 4)
  | undefMsrImmSpace (cond : BitVec 4) (f1 : BitVec 1) (f2 : BitVec 20)
  | undefLsRegBit4 (cond : BitVec 4) (f1 : BitVec 20) (f2 : BitVec 4)
  | undefCpLsSpace (cond : BitVec 4) (body : BitVec 21)
  -- Thumb data processing and branch exchange (R900-R938)
  | tLslImm (imm : BitVec 5) (rm rd : LowReg)
  | tLsrImm (imm : BitVec 5) (rm rd : LowReg)
  | tAsrImm (imm : BitVec 5) (rm rd : LowReg)
  | tAddReg (rm rn rd : LowReg)
  | tSubReg (rm rn rd : LowReg)
  | tAddImm3 (imm : BitVec 3) (rn rd : LowReg)
  | tSubImm3 (imm : BitVec 3) (rn rd : LowReg)
  | tMovImm (rd : LowReg) (imm : BitVec 8)
  | tCmpImm (rd : LowReg) (imm : BitVec 8)
  | tAddImm8 (rd : LowReg) (imm : BitVec 8)
  | tSubImm8 (rd : LowReg) (imm : BitVec 8)
  | tAnd (rm rd : LowReg)
  | tEor (rm rd : LowReg)
  | tLslReg (rm rd : LowReg)
  | tLsrReg (rm rd : LowReg)
  | tAsrReg (rm rd : LowReg)
  | tAdc (rm rd : LowReg)
  | tSbc (rm rd : LowReg)
  | tRor (rm rd : LowReg)
  | tTst (rm rd : LowReg)
  | tNeg (rm rd : LowReg)
  | tCmpReg (rm rd : LowReg)
  | tCmn (rm rd : LowReg)
  | tOrr (rm rd : LowReg)
  | tMul (rm rd : LowReg)
  | tBic (rm rd : LowReg)
  | tMvn (rm rd : LowReg)
  | tAddHi (h1 h2 : Bool) (rm rd : LowReg)
  | tCmpHi (h1 h2 : Bool) (rm rd : LowReg)
  | tMovHi (h1 h2 : Bool) (rm rd : LowReg)
  | tBx (h2 : Bool) (rm : LowReg) (sbz : BitVec 3)
  | tBlxReg (h2 : Bool) (rm : LowReg) (sbz : BitVec 3)
  | tAddPc (rd : LowReg) (imm : BitVec 8)
  | tAddSp (rd : LowReg) (imm : BitVec 8)
  | tAddSpImm (imm : BitVec 7)
  | tSubSpImm (imm : BitVec 7)
  -- Thumb loads, stores, branches and exceptions (R970-R997)
  | tLdrPc (rd : LowReg) (imm : BitVec 8)
  | tStrReg (rm rn rd : LowReg)
  | tStrhReg (rm rn rd : LowReg)
  | tStrbReg (rm rn rd : LowReg)
  | tLdrsbReg (rm rn rd : LowReg)
  | tLdrReg (rm rn rd : LowReg)
  | tLdrhReg (rm rn rd : LowReg)
  | tLdrbReg (rm rn rd : LowReg)
  | tLdrshReg (rm rn rd : LowReg)
  | tStrImm (imm : BitVec 5) (rn rd : LowReg)
  | tLdrImm (imm : BitVec 5) (rn rd : LowReg)
  | tStrbImm (imm : BitVec 5) (rn rd : LowReg)
  | tLdrbImm (imm : BitVec 5) (rn rd : LowReg)
  | tStrhImm (imm : BitVec 5) (rn rd : LowReg)
  | tLdrhImm (imm : BitVec 5) (rn rd : LowReg)
  | tStrSp (rd : LowReg) (imm : BitVec 8)
  | tLdrSp (rd : LowReg) (imm : BitVec 8)
  | tPush (r : Bool) (list : BitVec 8)
  | tPop (r : Bool) (list : BitVec 8)
  | tBkpt (imm : BitVec 8)
  | tStmia (rn : LowReg) (list : BitVec 8)
  | tLdmia (rn : LowReg) (list : BitVec 8)
  | tBCond (cond : BitVec 4) (imm : BitVec 8)
  | tSwi (imm : BitVec 8)
  | tB (imm : BitVec 11)
  | tBlxSuffix (imm : BitVec 10)
  | tBlPrefix (imm : BitVec 11)
  | tBlSuffix (imm : BitVec 11)
  -- Thumb undefined space (R341, R998)
  | tUndefB1 (body : BitVec 8)
  | tUndefB2B3 (body : BitVec 9)
  | tUndefB6B7 (body : BitVec 9)
  | tUndefB8Bb (body : BitVec 10)
  | tUndefBf (body : BitVec 8)
  | tUndefCondE (body : BitVec 8)
  | tUndefBlxOdd (body : BitVec 10)
  deriving DecidableEq, Repr

end Sys2Proof
end

