-- ==== Sys2Proof/WellFormed.lean ====
section
/-! DEFINITION. Which instruction set a constructor belongs to, and when an instruction is well formed, that is the
decoding of some word. Every field is already held to its width by its type; what is left are three checks: a
conditional ARM row never has cond = 1111 (R303: that space is R319's); a Thumb conditional branch never has
cond = 1110 or 1111 (R330 format 16: those are UNDEFINED and SWI); and the fallback row `NV_skipped` holds only
words that no other cond = 1111 row matches (the row's "no other row matches", R319). -/

namespace Sys2Proof

/-- Whether the instruction is a 16-bit Thumb instruction (R300). -/
def Instr.isThumb : Instr → Bool
  | .andImmShift _ _ _ _ _ _ _ => false
  | .andRegShift _ _ _ _ _ _ _ => false
  | .andImm _ _ _ _ _ _ => false
  | .eorImmShift _ _ _ _ _ _ _ => false
  | .eorRegShift _ _ _ _ _ _ _ => false
  | .eorImm _ _ _ _ _ _ => false
  | .subImmShift _ _ _ _ _ _ _ => false
  | .subRegShift _ _ _ _ _ _ _ => false
  | .subImm _ _ _ _ _ _ => false
  | .rsbImmShift _ _ _ _ _ _ _ => false
  | .rsbRegShift _ _ _ _ _ _ _ => false
  | .rsbImm _ _ _ _ _ _ => false
  | .addImmShift _ _ _ _ _ _ _ => false
  | .addRegShift _ _ _ _ _ _ _ => false
  | .addImm _ _ _ _ _ _ => false
  | .adcImmShift _ _ _ _ _ _ _ => false
  | .adcRegShift _ _ _ _ _ _ _ => false
  | .adcImm _ _ _ _ _ _ => false
  | .sbcImmShift _ _ _ _ _ _ _ => false
  | .sbcRegShift _ _ _ _ _ _ _ => false
  | .sbcImm _ _ _ _ _ _ => false
  | .rscImmShift _ _ _ _ _ _ _ => false
  | .rscRegShift _ _ _ _ _ _ _ => false
  | .rscImm _ _ _ _ _ _ => false
  | .tstImmShift _ _ _ _ _ _ => false
  | .tstRegShift _ _ _ _ _ _ => false
  | .tstImm _ _ _ _ _ => false
  | .teqImmShift _ _ _ _ _ _ => false
  | .teqRegShift _ _ _ _ _ _ => false
  | .teqImm _ _ _ _ _ => false
  | .cmpImmShift _ _ _ _ _ _ => false
  | .cmpRegShift _ _ _ _ _ _ => false
  | .cmpImm _ _ _ _ _ => false
  | .cmnImmShift _ _ _ _ _ _ => false
  | .cmnRegShift _ _ _ _ _ _ => false
  | .cmnImm _ _ _ _ _ => false
  | .orrImmShift _ _ _ _ _ _ _ => false
  | .orrRegShift _ _ _ _ _ _ _ => false
  | .orrImm _ _ _ _ _ _ => false
  | .movImmShift _ _ _ _ _ _ _ => false
  | .movRegShift _ _ _ _ _ _ _ => false
  | .movImm _ _ _ _ _ _ => false
  | .bicImmShift _ _ _ _ _ _ _ => false
  | .bicRegShift _ _ _ _ _ _ _ => false
  | .bicImm _ _ _ _ _ _ => false
  | .mvnImmShift _ _ _ _ _ _ _ => false
  | .mvnRegShift _ _ _ _ _ _ _ => false
  | .mvnImm _ _ _ _ _ _ => false
  | .mrs _ _ _ _ _ _ => false
  | .msrReg _ _ _ _ _ _ => false
  | .msrImm _ _ _ _ _ _ => false
  | .clz _ _ _ _ _ => false
  | .qadd _ _ _ _ _ => false
  | .qsub _ _ _ _ _ => false
  | .qdadd _ _ _ _ _ => false
  | .qdsub _ _ _ _ _ => false
  | .mul _ _ _ _ _ _ => false
  | .mla _ _ _ _ _ _ => false
  | .umull _ _ _ _ _ _ => false
  | .umlal _ _ _ _ _ _ => false
  | .smull _ _ _ _ _ _ => false
  | .smlal _ _ _ _ _ _ => false
  | .smlaXY _ _ _ _ _ _ _ => false
  | .smlawY _ _ _ _ _ _ => false
  | .smulwY _ _ _ _ _ _ => false
  | .smlalXY _ _ _ _ _ _ _ => false
  | .smulXY _ _ _ _ _ _ _ => false
  | .swp _ _ _ _ _ => false
  | .swpb _ _ _ _ _ => false
  | .ldrImmPre _ _ _ _ _ _ => false
  | .ldrImmPost _ _ _ _ _ => false
  | .ldrRegPre _ _ _ _ _ _ _ _ => false
  | .ldrRegPost _ _ _ _ _ _ _ => false
  | .ldrbImmPre _ _ _ _ _ _ => false
  | .ldrbImmPost _ _ _ _ _ => false
  | .ldrbRegPre _ _ _ _ _ _ _ _ => false
  | .ldrbRegPost _ _ _ _ _ _ _ => false
  | .strImmPre _ _ _ _ _ _ => false
  | .strImmPost _ _ _ _ _ => false
  | .strRegPre _ _ _ _ _ _ _ _ => false
  | .strRegPost _ _ _ _ _ _ _ => false
  | .strbImmPre _ _ _ _ _ _ => false
  | .strbImmPost _ _ _ _ _ => false
  | .strbRegPre _ _ _ _ _ _ _ _ => false
  | .strbRegPost _ _ _ _ _ _ _ => false
  | .ldrtImm _ _ _ _ _ => false
  | .ldrtReg _ _ _ _ _ _ _ => false
  | .ldrbtImm _ _ _ _ _ => false
  | .ldrbtReg _ _ _ _ _ _ _ => false
  | .strtImm _ _ _ _ _ => false
  | .strtReg _ _ _ _ _ _ _ => false
  | .strbtImm _ _ _ _ _ => false
  | .strbtReg _ _ _ _ _ _ _ => false
  | .strhImm _ _ _ _ _ _ _ _ => false
  | .strhReg _ _ _ _ _ _ _ _ => false
  | .ldrdImm _ _ _ _ _ _ _ _ => false
  | .ldrdReg _ _ _ _ _ _ _ _ => false
  | .strdImm _ _ _ _ _ _ _ _ => false
  | .strdReg _ _ _ _ _ _ _ _ => false
  | .ldrhImm _ _ _ _ _ _ _ _ => false
  | .ldrhReg _ _ _ _ _ _ _ _ => false
  | .ldrsbImm _ _ _ _ _ _ _ _ => false
  | .ldrsbReg _ _ _ _ _ _ _ _ => false
  | .ldrshImm _ _ _ _ _ _ _ _ => false
  | .ldrshReg _ _ _ _ _ _ _ _ => false
  | .ldm1 _ _ _ _ _ _ => false
  | .ldm2 _ _ _ _ _ _ => false
  | .ldm3 _ _ _ _ _ _ => false
  | .stm1 _ _ _ _ _ _ => false
  | .stm2 _ _ _ _ _ _ => false
  | .b _ _ => false
  | .bl _ _ => false
  | .blxImm _ _ => false
  | .bx _ _ _ => false
  | .bxj _ _ _ => false
  | .blxReg _ _ _ => false
  | .swi _ _ => false
  | .bkpt _ _ _ => false
  | .ldcPre _ _ _ _ _ _ _ _ => false
  | .ldcPost _ _ _ _ _ _ _ => false
  | .ldcUnindexed _ _ _ _ _ _ => false
  | .stcPre _ _ _ _ _ _ _ _ => false
  | .stcPost _ _ _ _ _ _ _ => false
  | .stcUnindexed _ _ _ _ _ _ => false
  | .mcrr _ _ _ _ _ _ => false
  | .mrrc _ _ _ _ _ _ => false
  | .cdp _ _ _ _ _ _ _ => false
  | .mcr _ _ _ _ _ _ _ => false
  | .mrc _ _ _ _ _ _ _ => false
  | .pldImm _ _ _ _ => false
  | .pldReg _ _ _ _ _ _ => false
  | .cdp2 _ _ _ _ _ _ => false
  | .mcr2 _ _ _ _ _ _ => false
  | .mrc2 _ _ _ _ _ _ => false
  | .ldc2 _ _ _ _ _ _ _ _ => false
  | .stc2 _ _ _ _ _ _ _ _ => false
  | .nvSkipped _ => false
  | .undefMulSpace01 _ _ _ => false
  | .undefSwapSpaceA _ _ _ _ => false
  | .undefSwapSpaceB _ _ _ _ => false
  | .undefSwapSpaceC _ _ _ => false
  | .undefMisc0001 _ _ _ _ => false
  | .undefMisc0010A _ _ _ _ => false
  | .undefMisc0010B _ _ _ => false
  | .undefMisc0011A _ _ _ _ => false
  | .undefMisc0011B _ _ _ => false
  | .undefMisc0100 _ _ _ _ => false
  | .undefMisc0110 _ _ _ _ => false
  | .undefMisc0111A _ _ _ _ => false
  | .undefMisc0111B _ _ _ => false
  | .undefMsrImmSpace _ _ _ => false
  | .undefLsRegBit4 _ _ _ => false
  | .undefCpLsSpace _ _ => false
  | .tLslImm _ _ _ => true
  | .tLsrImm _ _ _ => true
  | .tAsrImm _ _ _ => true
  | .tAddReg _ _ _ => true
  | .tSubReg _ _ _ => true
  | .tAddImm3 _ _ _ => true
  | .tSubImm3 _ _ _ => true
  | .tMovImm _ _ => true
  | .tCmpImm _ _ => true
  | .tAddImm8 _ _ => true
  | .tSubImm8 _ _ => true
  | .tAnd _ _ => true
  | .tEor _ _ => true
  | .tLslReg _ _ => true
  | .tLsrReg _ _ => true
  | .tAsrReg _ _ => true
  | .tAdc _ _ => true
  | .tSbc _ _ => true
  | .tRor _ _ => true
  | .tTst _ _ => true
  | .tNeg _ _ => true
  | .tCmpReg _ _ => true
  | .tCmn _ _ => true
  | .tOrr _ _ => true
  | .tMul _ _ => true
  | .tBic _ _ => true
  | .tMvn _ _ => true
  | .tAddHi _ _ _ _ => true
  | .tCmpHi _ _ _ _ => true
  | .tMovHi _ _ _ _ => true
  | .tBx _ _ _ => true
  | .tBlxReg _ _ _ => true
  | .tLdrPc _ _ => true
  | .tStrReg _ _ _ => true
  | .tStrhReg _ _ _ => true
  | .tStrbReg _ _ _ => true
  | .tLdrsbReg _ _ _ => true
  | .tLdrReg _ _ _ => true
  | .tLdrhReg _ _ _ => true
  | .tLdrbReg _ _ _ => true
  | .tLdrshReg _ _ _ => true
  | .tStrImm _ _ _ => true
  | .tLdrImm _ _ _ => true
  | .tStrbImm _ _ _ => true
  | .tLdrbImm _ _ _ => true
  | .tStrhImm _ _ _ => true
  | .tLdrhImm _ _ _ => true
  | .tStrSp _ _ => true
  | .tLdrSp _ _ => true
  | .tAddPc _ _ => true
  | .tAddSp _ _ => true
  | .tAddSpImm _ => true
  | .tSubSpImm _ => true
  | .tPush _ _ => true
  | .tPop _ _ => true
  | .tBkpt _ => true
  | .tStmia _ _ => true
  | .tLdmia _ _ => true
  | .tBCond _ _ => true
  | .tSwi _ => true
  | .tB _ => true
  | .tBlxSuffix _ => true
  | .tBlPrefix _ => true
  | .tBlSuffix _ => true
  | .tUndefB1 _ => true
  | .tUndefB2B3 _ => true
  | .tUndefB6B7 _ => true
  | .tUndefB8Bb _ => true
  | .tUndefBf _ => true
  | .tUndefCondE _ => true
  | .tUndefBlxOdd _ => true

/-- The condition field of a conditional ARM row (R401), `none` for the cond = 1111 rows and for Thumb. -/
def Instr.armCond : Instr → Option (BitVec 4)
  | .andImmShift cond _ _ _ _ _ _ => some cond
  | .andRegShift cond _ _ _ _ _ _ => some cond
  | .andImm cond _ _ _ _ _ => some cond
  | .eorImmShift cond _ _ _ _ _ _ => some cond
  | .eorRegShift cond _ _ _ _ _ _ => some cond
  | .eorImm cond _ _ _ _ _ => some cond
  | .subImmShift cond _ _ _ _ _ _ => some cond
  | .subRegShift cond _ _ _ _ _ _ => some cond
  | .subImm cond _ _ _ _ _ => some cond
  | .rsbImmShift cond _ _ _ _ _ _ => some cond
  | .rsbRegShift cond _ _ _ _ _ _ => some cond
  | .rsbImm cond _ _ _ _ _ => some cond
  | .addImmShift cond _ _ _ _ _ _ => some cond
  | .addRegShift cond _ _ _ _ _ _ => some cond
  | .addImm cond _ _ _ _ _ => some cond
  | .adcImmShift cond _ _ _ _ _ _ => some cond
  | .adcRegShift cond _ _ _ _ _ _ => some cond
  | .adcImm cond _ _ _ _ _ => some cond
  | .sbcImmShift cond _ _ _ _ _ _ => some cond
  | .sbcRegShift cond _ _ _ _ _ _ => some cond
  | .sbcImm cond _ _ _ _ _ => some cond
  | .rscImmShift cond _ _ _ _ _ _ => some cond
  | .rscRegShift cond _ _ _ _ _ _ => some cond
  | .rscImm cond _ _ _ _ _ => some cond
  | .tstImmShift cond _ _ _ _ _ => some cond
  | .tstRegShift cond _ _ _ _ _ => some cond
  | .tstImm cond _ _ _ _ => some cond
  | .teqImmShift cond _ _ _ _ _ => some cond
  | .teqRegShift cond _ _ _ _ _ => some cond
  | .teqImm cond _ _ _ _ => some cond
  | .cmpImmShift cond _ _ _ _ _ => some cond
  | .cmpRegShift cond _ _ _ _ _ => some cond
  | .cmpImm cond _ _ _ _ => some cond
  | .cmnImmShift cond _ _ _ _ _ => some cond
  | .cmnRegShift cond _ _ _ _ _ => some cond
  | .cmnImm cond _ _ _ _ => some cond
  | .orrImmShift cond _ _ _ _ _ _ => some cond
  | .orrRegShift cond _ _ _ _ _ _ => some cond
  | .orrImm cond _ _ _ _ _ => some cond
  | .movImmShift cond _ _ _ _ _ _ => some cond
  | .movRegShift cond _ _ _ _ _ _ => some cond
  | .movImm cond _ _ _ _ _ => some cond
  | .bicImmShift cond _ _ _ _ _ _ => some cond
  | .bicRegShift cond _ _ _ _ _ _ => some cond
  | .bicImm cond _ _ _ _ _ => some cond
  | .mvnImmShift cond _ _ _ _ _ _ => some cond
  | .mvnRegShift cond _ _ _ _ _ _ => some cond
  | .mvnImm cond _ _ _ _ _ => some cond
  | .mrs cond _ _ _ _ _ => some cond
  | .msrReg cond _ _ _ _ _ => some cond
  | .msrImm cond _ _ _ _ _ => some cond
  | .clz cond _ _ _ _ => some cond
  | .qadd cond _ _ _ _ => some cond
  | .qsub cond _ _ _ _ => some cond
  | .qdadd cond _ _ _ _ => some cond
  | .qdsub cond _ _ _ _ => some cond
  | .mul cond _ _ _ _ _ => some cond
  | .mla cond _ _ _ _ _ => some cond
  | .umull cond _ _ _ _ _ => some cond
  | .umlal cond _ _ _ _ _ => some cond
  | .smull cond _ _ _ _ _ => some cond
  | .smlal cond _ _ _ _ _ => some cond
  | .smlaXY cond _ _ _ _ _ _ => some cond
  | .smlawY cond _ _ _ _ _ => some cond
  | .smulwY cond _ _ _ _ _ => some cond
  | .smlalXY cond _ _ _ _ _ _ => some cond
  | .smulXY cond _ _ _ _ _ _ => some cond
  | .swp cond _ _ _ _ => some cond
  | .swpb cond _ _ _ _ => some cond
  | .ldrImmPre cond _ _ _ _ _ => some cond
  | .ldrImmPost cond _ _ _ _ => some cond
  | .ldrRegPre cond _ _ _ _ _ _ _ => some cond
  | .ldrRegPost cond _ _ _ _ _ _ => some cond
  | .ldrbImmPre cond _ _ _ _ _ => some cond
  | .ldrbImmPost cond _ _ _ _ => some cond
  | .ldrbRegPre cond _ _ _ _ _ _ _ => some cond
  | .ldrbRegPost cond _ _ _ _ _ _ => some cond
  | .strImmPre cond _ _ _ _ _ => some cond
  | .strImmPost cond _ _ _ _ => some cond
  | .strRegPre cond _ _ _ _ _ _ _ => some cond
  | .strRegPost cond _ _ _ _ _ _ => some cond
  | .strbImmPre cond _ _ _ _ _ => some cond
  | .strbImmPost cond _ _ _ _ => some cond
  | .strbRegPre cond _ _ _ _ _ _ _ => some cond
  | .strbRegPost cond _ _ _ _ _ _ => some cond
  | .ldrtImm cond _ _ _ _ => some cond
  | .ldrtReg cond _ _ _ _ _ _ => some cond
  | .ldrbtImm cond _ _ _ _ => some cond
  | .ldrbtReg cond _ _ _ _ _ _ => some cond
  | .strtImm cond _ _ _ _ => some cond
  | .strtReg cond _ _ _ _ _ _ => some cond
  | .strbtImm cond _ _ _ _ => some cond
  | .strbtReg cond _ _ _ _ _ _ => some cond
  | .strhImm cond _ _ _ _ _ _ _ => some cond
  | .strhReg cond _ _ _ _ _ _ _ => some cond
  | .ldrdImm cond _ _ _ _ _ _ _ => some cond
  | .ldrdReg cond _ _ _ _ _ _ _ => some cond
  | .strdImm cond _ _ _ _ _ _ _ => some cond
  | .strdReg cond _ _ _ _ _ _ _ => some cond
  | .ldrhImm cond _ _ _ _ _ _ _ => some cond
  | .ldrhReg cond _ _ _ _ _ _ _ => some cond
  | .ldrsbImm cond _ _ _ _ _ _ _ => some cond
  | .ldrsbReg cond _ _ _ _ _ _ _ => some cond
  | .ldrshImm cond _ _ _ _ _ _ _ => some cond
  | .ldrshReg cond _ _ _ _ _ _ _ => some cond
  | .ldm1 cond _ _ _ _ _ => some cond
  | .ldm2 cond _ _ _ _ _ => some cond
  | .ldm3 cond _ _ _ _ _ => some cond
  | .stm1 cond _ _ _ _ _ => some cond
  | .stm2 cond _ _ _ _ _ => some cond
  | .b cond _ => some cond
  | .bl cond _ => some cond
  | .blxImm _ _ => none
  | .bx cond _ _ => some cond
  | .bxj cond _ _ => some cond
  | .blxReg cond _ _ => some cond
  | .swi cond _ => some cond
  | .bkpt cond _ _ => some cond
  | .ldcPre cond _ _ _ _ _ _ _ => some cond
  | .ldcPost cond _ _ _ _ _ _ => some cond
  | .ldcUnindexed cond _ _ _ _ _ => some cond
  | .stcPre cond _ _ _ _ _ _ _ => some cond
  | .stcPost cond _ _ _ _ _ _ => some cond
  | .stcUnindexed cond _ _ _ _ _ => some cond
  | .mcrr cond _ _ _ _ _ => some cond
  | .mrrc cond _ _ _ _ _ => some cond
  | .cdp cond _ _ _ _ _ _ => some cond
  | .mcr cond _ _ _ _ _ _ => some cond
  | .mrc cond _ _ _ _ _ _ => some cond
  | .pldImm _ _ _ _ => none
  | .pldReg _ _ _ _ _ _ => none
  | .cdp2 _ _ _ _ _ _ => none
  | .mcr2 _ _ _ _ _ _ => none
  | .mrc2 _ _ _ _ _ _ => none
  | .ldc2 _ _ _ _ _ _ _ _ => none
  | .stc2 _ _ _ _ _ _ _ _ => none
  | .nvSkipped _ => none
  | .undefMulSpace01 cond _ _ => some cond
  | .undefSwapSpaceA cond _ _ _ => some cond
  | .undefSwapSpaceB cond _ _ _ => some cond
  | .undefSwapSpaceC cond _ _ => some cond
  | .undefMisc0001 cond _ _ _ => some cond
  | .undefMisc0010A cond _ _ _ => some cond
  | .undefMisc0010B cond _ _ => some cond
  | .undefMisc0011A cond _ _ _ => some cond
  | .undefMisc0011B cond _ _ => some cond
  | .undefMisc0100 cond _ _ _ => some cond
  | .undefMisc0110 cond _ _ _ => some cond
  | .undefMisc0111A cond _ _ _ => some cond
  | .undefMisc0111B cond _ _ => some cond
  | .undefMsrImmSpace cond _ _ => some cond
  | .undefLsRegBit4 cond _ _ => some cond
  | .undefCpLsSpace cond _ => some cond
  | .tLslImm _ _ _ => none
  | .tLsrImm _ _ _ => none
  | .tAsrImm _ _ _ => none
  | .tAddReg _ _ _ => none
  | .tSubReg _ _ _ => none
  | .tAddImm3 _ _ _ => none
  | .tSubImm3 _ _ _ => none
  | .tMovImm _ _ => none
  | .tCmpImm _ _ => none
  | .tAddImm8 _ _ => none
  | .tSubImm8 _ _ => none
  | .tAnd _ _ => none
  | .tEor _ _ => none
  | .tLslReg _ _ => none
  | .tLsrReg _ _ => none
  | .tAsrReg _ _ => none
  | .tAdc _ _ => none
  | .tSbc _ _ => none
  | .tRor _ _ => none
  | .tTst _ _ => none
  | .tNeg _ _ => none
  | .tCmpReg _ _ => none
  | .tCmn _ _ => none
  | .tOrr _ _ => none
  | .tMul _ _ => none
  | .tBic _ _ => none
  | .tMvn _ _ => none
  | .tAddHi _ _ _ _ => none
  | .tCmpHi _ _ _ _ => none
  | .tMovHi _ _ _ _ => none
  | .tBx _ _ _ => none
  | .tBlxReg _ _ _ => none
  | .tLdrPc _ _ => none
  | .tStrReg _ _ _ => none
  | .tStrhReg _ _ _ => none
  | .tStrbReg _ _ _ => none
  | .tLdrsbReg _ _ _ => none
  | .tLdrReg _ _ _ => none
  | .tLdrhReg _ _ _ => none
  | .tLdrbReg _ _ _ => none
  | .tLdrshReg _ _ _ => none
  | .tStrImm _ _ _ => none
  | .tLdrImm _ _ _ => none
  | .tStrbImm _ _ _ => none
  | .tLdrbImm _ _ _ => none
  | .tStrhImm _ _ _ => none
  | .tLdrhImm _ _ _ => none
  | .tStrSp _ _ => none
  | .tLdrSp _ _ => none
  | .tAddPc _ _ => none
  | .tAddSp _ _ => none
  | .tAddSpImm _ => none
  | .tSubSpImm _ => none
  | .tPush _ _ => none
  | .tPop _ _ => none
  | .tBkpt _ => none
  | .tStmia _ _ => none
  | .tLdmia _ _ => none
  | .tBCond _ _ => none
  | .tSwi _ => none
  | .tB _ => none
  | .tBlxSuffix _ => none
  | .tBlPrefix _ => none
  | .tBlSuffix _ => none
  | .tUndefB1 _ => none
  | .tUndefB2B3 _ => none
  | .tUndefB6B7 _ => none
  | .tUndefB8Bb _ => none
  | .tUndefBf _ => none
  | .tUndefCondE _ => none
  | .tUndefBlxOdd _ => none

/-- The low 28 bits of a cond = 1111 word that some row other than `NV_skipped` matches (R319): BLX(1), PLD
(immediate, register), LDC2 and STC2, CDP2, MCR2 and MRC2. -/
def otherUnconditionalRow (body : BitVec 28) : Bool :=
  body.extractLsb' 25 3 == 0b101#3
    || (body.extractLsb' 24 4 == 0b0101#4 && body.extractLsb' 20 3 == 0b101#3)
    || (body.extractLsb' 24 4 == 0b0111#4 && body.extractLsb' 20 3 == 0b101#3 && !body.getLsbD 4)
    || body.extractLsb' 25 3 == 0b110#3
    || body.extractLsb' 24 4 == 0b1110#4

/-- The checks that only one row has. -/
def Instr.rowCheck : Instr → Bool
  | .tBCond cond _ => decide (cond.toNat < 14)
  | .nvSkipped body => !otherUnconditionalRow body
  | .andImmShift _ _ _ _ _ _ _ => true
  | .andRegShift _ _ _ _ _ _ _ => true
  | .andImm _ _ _ _ _ _ => true
  | .eorImmShift _ _ _ _ _ _ _ => true
  | .eorRegShift _ _ _ _ _ _ _ => true
  | .eorImm _ _ _ _ _ _ => true
  | .subImmShift _ _ _ _ _ _ _ => true
  | .subRegShift _ _ _ _ _ _ _ => true
  | .subImm _ _ _ _ _ _ => true
  | .rsbImmShift _ _ _ _ _ _ _ => true
  | .rsbRegShift _ _ _ _ _ _ _ => true
  | .rsbImm _ _ _ _ _ _ => true
  | .addImmShift _ _ _ _ _ _ _ => true
  | .addRegShift _ _ _ _ _ _ _ => true
  | .addImm _ _ _ _ _ _ => true
  | .adcImmShift _ _ _ _ _ _ _ => true
  | .adcRegShift _ _ _ _ _ _ _ => true
  | .adcImm _ _ _ _ _ _ => true
  | .sbcImmShift _ _ _ _ _ _ _ => true
  | .sbcRegShift _ _ _ _ _ _ _ => true
  | .sbcImm _ _ _ _ _ _ => true
  | .rscImmShift _ _ _ _ _ _ _ => true
  | .rscRegShift _ _ _ _ _ _ _ => true
  | .rscImm _ _ _ _ _ _ => true
  | .tstImmShift _ _ _ _ _ _ => true
  | .tstRegShift _ _ _ _ _ _ => true
  | .tstImm _ _ _ _ _ => true
  | .teqImmShift _ _ _ _ _ _ => true
  | .teqRegShift _ _ _ _ _ _ => true
  | .teqImm _ _ _ _ _ => true
  | .cmpImmShift _ _ _ _ _ _ => true
  | .cmpRegShift _ _ _ _ _ _ => true
  | .cmpImm _ _ _ _ _ => true
  | .cmnImmShift _ _ _ _ _ _ => true
  | .cmnRegShift _ _ _ _ _ _ => true
  | .cmnImm _ _ _ _ _ => true
  | .orrImmShift _ _ _ _ _ _ _ => true
  | .orrRegShift _ _ _ _ _ _ _ => true
  | .orrImm _ _ _ _ _ _ => true
  | .movImmShift _ _ _ _ _ _ _ => true
  | .movRegShift _ _ _ _ _ _ _ => true
  | .movImm _ _ _ _ _ _ => true
  | .bicImmShift _ _ _ _ _ _ _ => true
  | .bicRegShift _ _ _ _ _ _ _ => true
  | .bicImm _ _ _ _ _ _ => true
  | .mvnImmShift _ _ _ _ _ _ _ => true
  | .mvnRegShift _ _ _ _ _ _ _ => true
  | .mvnImm _ _ _ _ _ _ => true
  | .mrs _ _ _ _ _ _ => true
  | .msrReg _ _ _ _ _ _ => true
  | .msrImm _ _ _ _ _ _ => true
  | .clz _ _ _ _ _ => true
  | .qadd _ _ _ _ _ => true
  | .qsub _ _ _ _ _ => true
  | .qdadd _ _ _ _ _ => true
  | .qdsub _ _ _ _ _ => true
  | .mul _ _ _ _ _ _ => true
  | .mla _ _ _ _ _ _ => true
  | .umull _ _ _ _ _ _ => true
  | .umlal _ _ _ _ _ _ => true
  | .smull _ _ _ _ _ _ => true
  | .smlal _ _ _ _ _ _ => true
  | .smlaXY _ _ _ _ _ _ _ => true
  | .smlawY _ _ _ _ _ _ => true
  | .smulwY _ _ _ _ _ _ => true
  | .smlalXY _ _ _ _ _ _ _ => true
  | .smulXY _ _ _ _ _ _ _ => true
  | .swp _ _ _ _ _ => true
  | .swpb _ _ _ _ _ => true
  | .ldrImmPre _ _ _ _ _ _ => true
  | .ldrImmPost _ _ _ _ _ => true
  | .ldrRegPre _ _ _ _ _ _ _ _ => true
  | .ldrRegPost _ _ _ _ _ _ _ => true
  | .ldrbImmPre _ _ _ _ _ _ => true
  | .ldrbImmPost _ _ _ _ _ => true
  | .ldrbRegPre _ _ _ _ _ _ _ _ => true
  | .ldrbRegPost _ _ _ _ _ _ _ => true
  | .strImmPre _ _ _ _ _ _ => true
  | .strImmPost _ _ _ _ _ => true
  | .strRegPre _ _ _ _ _ _ _ _ => true
  | .strRegPost _ _ _ _ _ _ _ => true
  | .strbImmPre _ _ _ _ _ _ => true
  | .strbImmPost _ _ _ _ _ => true
  | .strbRegPre _ _ _ _ _ _ _ _ => true
  | .strbRegPost _ _ _ _ _ _ _ => true
  | .ldrtImm _ _ _ _ _ => true
  | .ldrtReg _ _ _ _ _ _ _ => true
  | .ldrbtImm _ _ _ _ _ => true
  | .ldrbtReg _ _ _ _ _ _ _ => true
  | .strtImm _ _ _ _ _ => true
  | .strtReg _ _ _ _ _ _ _ => true
  | .strbtImm _ _ _ _ _ => true
  | .strbtReg _ _ _ _ _ _ _ => true
  | .strhImm _ _ _ _ _ _ _ _ => true
  | .strhReg _ _ _ _ _ _ _ _ => true
  | .ldrdImm _ _ _ _ _ _ _ _ => true
  | .ldrdReg _ _ _ _ _ _ _ _ => true
  | .strdImm _ _ _ _ _ _ _ _ => true
  | .strdReg _ _ _ _ _ _ _ _ => true
  | .ldrhImm _ _ _ _ _ _ _ _ => true
  | .ldrhReg _ _ _ _ _ _ _ _ => true
  | .ldrsbImm _ _ _ _ _ _ _ _ => true
  | .ldrsbReg _ _ _ _ _ _ _ _ => true
  | .ldrshImm _ _ _ _ _ _ _ _ => true
  | .ldrshReg _ _ _ _ _ _ _ _ => true
  | .ldm1 _ _ _ _ _ _ => true
  | .ldm2 _ _ _ _ _ _ => true
  | .ldm3 _ _ _ _ _ _ => true
  | .stm1 _ _ _ _ _ _ => true
  | .stm2 _ _ _ _ _ _ => true
  | .b _ _ => true
  | .bl _ _ => true
  | .blxImm _ _ => true
  | .bx _ _ _ => true
  | .bxj _ _ _ => true
  | .blxReg _ _ _ => true
  | .swi _ _ => true
  | .bkpt _ _ _ => true
  | .ldcPre _ _ _ _ _ _ _ _ => true
  | .ldcPost _ _ _ _ _ _ _ => true
  | .ldcUnindexed _ _ _ _ _ _ => true
  | .stcPre _ _ _ _ _ _ _ _ => true
  | .stcPost _ _ _ _ _ _ _ => true
  | .stcUnindexed _ _ _ _ _ _ => true
  | .mcrr _ _ _ _ _ _ => true
  | .mrrc _ _ _ _ _ _ => true
  | .cdp _ _ _ _ _ _ _ => true
  | .mcr _ _ _ _ _ _ _ => true
  | .mrc _ _ _ _ _ _ _ => true
  | .pldImm _ _ _ _ => true
  | .pldReg _ _ _ _ _ _ => true
  | .cdp2 _ _ _ _ _ _ => true
  | .mcr2 _ _ _ _ _ _ => true
  | .mrc2 _ _ _ _ _ _ => true
  | .ldc2 _ _ _ _ _ _ _ _ => true
  | .stc2 _ _ _ _ _ _ _ _ => true
  | .undefMulSpace01 _ _ _ => true
  | .undefSwapSpaceA _ _ _ _ => true
  | .undefSwapSpaceB _ _ _ _ => true
  | .undefSwapSpaceC _ _ _ => true
  | .undefMisc0001 _ _ _ _ => true
  | .undefMisc0010A _ _ _ _ => true
  | .undefMisc0010B _ _ _ => true
  | .undefMisc0011A _ _ _ _ => true
  | .undefMisc0011B _ _ _ => true
  | .undefMisc0100 _ _ _ _ => true
  | .undefMisc0110 _ _ _ _ => true
  | .undefMisc0111A _ _ _ _ => true
  | .undefMisc0111B _ _ _ => true
  | .undefMsrImmSpace _ _ _ => true
  | .undefLsRegBit4 _ _ _ => true
  | .undefCpLsSpace _ _ => true
  | .tLslImm _ _ _ => true
  | .tLsrImm _ _ _ => true
  | .tAsrImm _ _ _ => true
  | .tAddReg _ _ _ => true
  | .tSubReg _ _ _ => true
  | .tAddImm3 _ _ _ => true
  | .tSubImm3 _ _ _ => true
  | .tMovImm _ _ => true
  | .tCmpImm _ _ => true
  | .tAddImm8 _ _ => true
  | .tSubImm8 _ _ => true
  | .tAnd _ _ => true
  | .tEor _ _ => true
  | .tLslReg _ _ => true
  | .tLsrReg _ _ => true
  | .tAsrReg _ _ => true
  | .tAdc _ _ => true
  | .tSbc _ _ => true
  | .tRor _ _ => true
  | .tTst _ _ => true
  | .tNeg _ _ => true
  | .tCmpReg _ _ => true
  | .tCmn _ _ => true
  | .tOrr _ _ => true
  | .tMul _ _ => true
  | .tBic _ _ => true
  | .tMvn _ _ => true
  | .tAddHi _ _ _ _ => true
  | .tCmpHi _ _ _ _ => true
  | .tMovHi _ _ _ _ => true
  | .tBx _ _ _ => true
  | .tBlxReg _ _ _ => true
  | .tLdrPc _ _ => true
  | .tStrReg _ _ _ => true
  | .tStrhReg _ _ _ => true
  | .tStrbReg _ _ _ => true
  | .tLdrsbReg _ _ _ => true
  | .tLdrReg _ _ _ => true
  | .tLdrhReg _ _ _ => true
  | .tLdrbReg _ _ _ => true
  | .tLdrshReg _ _ _ => true
  | .tStrImm _ _ _ => true
  | .tLdrImm _ _ _ => true
  | .tStrbImm _ _ _ => true
  | .tLdrbImm _ _ _ => true
  | .tStrhImm _ _ _ => true
  | .tLdrhImm _ _ _ => true
  | .tStrSp _ _ => true
  | .tLdrSp _ _ => true
  | .tAddPc _ _ => true
  | .tAddSp _ _ => true
  | .tAddSpImm _ => true
  | .tSubSpImm _ => true
  | .tPush _ _ => true
  | .tPop _ _ => true
  | .tBkpt _ => true
  | .tStmia _ _ => true
  | .tLdmia _ _ => true
  | .tSwi _ => true
  | .tB _ => true
  | .tBlxSuffix _ => true
  | .tBlPrefix _ => true
  | .tBlSuffix _ => true
  | .tUndefB1 _ => true
  | .tUndefB2B3 _ => true
  | .tUndefB6B7 _ => true
  | .tUndefB8Bb _ => true
  | .tUndefBf _ => true
  | .tUndefCondE _ => true
  | .tUndefBlxOdd _ => true

/-- The instruction is the decoding of some word. -/
def Instr.wf (i : Instr) : Bool :=
  i.armCond != some 0b1111#4 && i.rowCheck

end Sys2Proof
end

