-- ==== Sys2Proof/Decode.lean ====
section
/-! DEFINITION. The decoder, written as the decode procedures of spec/30_encoding.md (R303, R310 and R319 for ARM
state, R331 for Thumb state), and after it the encoder, written from the format tables (R302, R330) and
the encodings of spec/opcode_table.json. Every 32-bit word and every 16-bit halfword is some row's, so decoding
a word never fails; decoding bytes refuses, by name, only when too few bytes are given. -/

namespace Sys2Proof

/-- `w[lo + n - 1 : lo]` (R11). -/
def field {m : Nat} (w : BitVec m) (lo n : Nat) : BitVec n := w.extractLsb' lo n

/-- `w[i]` (R11). -/
def flag {m : Nat} (w : BitVec m) (i : Nat) : Bool := w.getLsbD i

/-! ### ARM state: R303 -/

/-- The multiply and swap space: bits 27:25 = 000, bits 7:4 = 1001 (R303). -/
def decodeMulSwap (w : Word) : Instr :=
  if field w 22 6 = 0b000000#6 then if flag w 21 then .mla (field w 28 4) (flag w 20) (field w 16 4) (field w 12 4) (field w 8 4) (field w 0 4) else .mul (field w 28 4) (flag w 20) (field w 16 4) (field w 12 4) (field w 8 4) (field w 0 4)
  else if field w 23 5 = 0b00001#5 then (if flag w 22 then (if flag w 21 then .smlal (field w 28 4) (flag w 20) (field w 16 4) (field w 12 4) (field w 8 4) (field w 0 4) else .smull (field w 28 4) (flag w 20) (field w 16 4) (field w 12 4) (field w 8 4) (field w 0 4))
    else if flag w 21 then .umlal (field w 28 4) (flag w 20) (field w 16 4) (field w 12 4) (field w 8 4) (field w 0 4) else .umull (field w 28 4) (flag w 20) (field w 16 4) (field w 12 4) (field w 8 4) (field w 0 4))
  else if field w 23 5 = 0b00010#5 then (if field w 20 2 = 0b00#2 then (if flag w 22 then .swpb (field w 28 4) (field w 16 4) (field w 12 4) (field w 8 4) (field w 0 4) else .swp (field w 28 4) (field w 16 4) (field w 12 4) (field w 8 4) (field w 0 4))
    else if flag w 21 then .undefSwapSpaceB (field w 28 4) (field w 22 1) (field w 8 13) (field w 0 4) else .undefSwapSpaceA (field w 28 4) (field w 22 1) (field w 8 12) (field w 0 4))
  else if field w 23 5 = 0b00011#5 then .undefSwapSpaceC (field w 28 4) (field w 8 15) (field w 0 4)
  else .undefMulSpace01 (field w 28 4) (field w 8 14) (field w 0 4)

/-- The extra load/store space: bits 27:25 = 000, bits 7 and 4 = 1, bits 6:5 not 00 (R303). -/
def decodeExtraLoadStore (w : Word) : Instr :=
  if !flag w 20 && field w 5 2 == 0b01#2 then (if flag w 22 then .strhImm (field w 28 4) (flag w 24) (flag w 23) (flag w 21) (field w 16 4) (field w 12 4) (field w 8 4) (field w 0 4)
    else .strhReg (field w 28 4) (flag w 24) (flag w 23) (flag w 21) (field w 16 4) (field w 12 4) (field w 8 4) (field w 0 4))
  else if flag w 20 && field w 5 2 == 0b01#2 then (if flag w 22 then .ldrhImm (field w 28 4) (flag w 24) (flag w 23) (flag w 21) (field w 16 4) (field w 12 4) (field w 8 4) (field w 0 4)
    else .ldrhReg (field w 28 4) (flag w 24) (flag w 23) (flag w 21) (field w 16 4) (field w 12 4) (field w 8 4) (field w 0 4))
  else if !flag w 20 && field w 5 2 == 0b10#2 then (if flag w 22 then .ldrdImm (field w 28 4) (flag w 24) (flag w 23) (flag w 21) (field w 16 4) (field w 12 4) (field w 8 4) (field w 0 4)
    else .ldrdReg (field w 28 4) (flag w 24) (flag w 23) (flag w 21) (field w 16 4) (field w 12 4) (field w 8 4) (field w 0 4))
  else if !flag w 20 && field w 5 2 == 0b11#2 then (if flag w 22 then .strdImm (field w 28 4) (flag w 24) (flag w 23) (flag w 21) (field w 16 4) (field w 12 4) (field w 8 4) (field w 0 4)
    else .strdReg (field w 28 4) (flag w 24) (flag w 23) (flag w 21) (field w 16 4) (field w 12 4) (field w 8 4) (field w 0 4))
  else if flag w 20 && field w 5 2 == 0b10#2 then (if flag w 22 then .ldrsbImm (field w 28 4) (flag w 24) (flag w 23) (flag w 21) (field w 16 4) (field w 12 4) (field w 8 4) (field w 0 4)
    else .ldrsbReg (field w 28 4) (flag w 24) (flag w 23) (flag w 21) (field w 16 4) (field w 12 4) (field w 8 4) (field w 0 4))
  else (if flag w 22 then .ldrshImm (field w 28 4) (flag w 24) (flag w 23) (flag w 21) (field w 16 4) (field w 12 4) (field w 8 4) (field w 0 4)
    else .ldrshReg (field w 28 4) (flag w 24) (flag w 23) (flag w 21) (field w 16 4) (field w 12 4) (field w 8 4) (field w 0 4))

/-- The miscellaneous space: bits 27:23 = 00010, bit 20 = 0, bits 7 and 4 not both 1 (R310). -/
def decodeMisc (w : Word) : Instr :=
  if field w 4 4 = 0b0000#4 then (if flag w 21 then .msrReg (field w 28 4) (flag w 22) (field w 16 4) (field w 12 4) (field w 8 4) (field w 0 4)
    else .mrs (field w 28 4) (flag w 22) (field w 16 4) (field w 12 4) (field w 8 4) (field w 0 4))
  else if field w 4 4 = 0b0001#4 then (if field w 21 2 = 0b01#2 then .bx (field w 28 4) (field w 8 12) (field w 0 4)
    else if field w 21 2 = 0b11#2 then .clz (field w 28 4) (field w 16 4) (field w 12 4) (field w 8 4) (field w 0 4)
    else .undefMisc0001 (field w 28 4) (field w 22 1) (field w 8 12) (field w 0 4))
  else if field w 4 4 = 0b0010#4 then (if field w 21 2 = 0b01#2 then .bxj (field w 28 4) (field w 8 12) (field w 0 4)
    else if field w 21 2 = 0b11#2 then .undefMisc0010B (field w 28 4) (field w 8 12) (field w 0 4)
    else .undefMisc0010A (field w 28 4) (field w 22 1) (field w 8 12) (field w 0 4))
  else if field w 4 4 = 0b0011#4 then (if field w 21 2 = 0b01#2 then .blxReg (field w 28 4) (field w 8 12) (field w 0 4)
    else if field w 21 2 = 0b11#2 then .undefMisc0011B (field w 28 4) (field w 8 12) (field w 0 4)
    else .undefMisc0011A (field w 28 4) (field w 22 1) (field w 8 12) (field w 0 4))
  else if field w 4 4 = 0b0100#4 then .undefMisc0100 (field w 28 4) (field w 21 2) (field w 8 12) (field w 0 4)
  else if field w 4 4 = 0b0101#4 then (if field w 21 2 = 0b00#2 then .qadd (field w 28 4) (field w 16 4) (field w 12 4) (field w 8 4) (field w 0 4)
    else if field w 21 2 = 0b01#2 then .qsub (field w 28 4) (field w 16 4) (field w 12 4) (field w 8 4) (field w 0 4)
    else if field w 21 2 = 0b10#2 then .qdadd (field w 28 4) (field w 16 4) (field w 12 4) (field w 8 4) (field w 0 4)
    else .qdsub (field w 28 4) (field w 16 4) (field w 12 4) (field w 8 4) (field w 0 4))
  else if field w 4 4 = 0b0110#4 then .undefMisc0110 (field w 28 4) (field w 21 2) (field w 8 12) (field w 0 4)
  else if field w 4 4 = 0b0111#4 then (if field w 21 2 = 0b01#2 then .bkpt (field w 28 4) (field w 8 12) (field w 0 4)
    else if field w 21 2 = 0b11#2 then .undefMisc0111B (field w 28 4) (field w 8 12) (field w 0 4)
    else .undefMisc0111A (field w 28 4) (field w 22 1) (field w 8 12) (field w 0 4))
  else if field w 21 2 = 0b00#2 then .smlaXY (field w 28 4) (field w 16 4) (field w 12 4) (field w 8 4) (flag w 6) (flag w 5) (field w 0 4)
  else if field w 21 2 = 0b01#2 then (if flag w 5 then .smulwY (field w 28 4) (field w 16 4) (field w 12 4) (field w 8 4) (flag w 6) (field w 0 4)
    else .smlawY (field w 28 4) (field w 16 4) (field w 12 4) (field w 8 4) (flag w 6) (field w 0 4))
  else if field w 21 2 = 0b10#2 then .smlalXY (field w 28 4) (field w 16 4) (field w 12 4) (field w 8 4) (flag w 6) (flag w 5) (field w 0 4)
  else .smulXY (field w 28 4) (field w 16 4) (field w 12 4) (field w 8 4) (flag w 6) (flag w 5) (field w 0 4)

/-- Data processing, bits 27:25 = 000, bit 4 = 0 (R302, R303): the operation by its opcode, bits 24:21. -/
def decodeDpImmShift (w : Word) (op : BitVec 4) : Instr :=
  if op = 0b0000#4 then .andImmShift (field w 28 4) (flag w 20) (field w 16 4) (field w 12 4) (field w 7 5) (field w 5 2) (field w 0 4)
  else if op = 0b0001#4 then .eorImmShift (field w 28 4) (flag w 20) (field w 16 4) (field w 12 4) (field w 7 5) (field w 5 2) (field w 0 4)
  else if op = 0b0010#4 then .subImmShift (field w 28 4) (flag w 20) (field w 16 4) (field w 12 4) (field w 7 5) (field w 5 2) (field w 0 4)
  else if op = 0b0011#4 then .rsbImmShift (field w 28 4) (flag w 20) (field w 16 4) (field w 12 4) (field w 7 5) (field w 5 2) (field w 0 4)
  else if op = 0b0100#4 then .addImmShift (field w 28 4) (flag w 20) (field w 16 4) (field w 12 4) (field w 7 5) (field w 5 2) (field w 0 4)
  else if op = 0b0101#4 then .adcImmShift (field w 28 4) (flag w 20) (field w 16 4) (field w 12 4) (field w 7 5) (field w 5 2) (field w 0 4)
  else if op = 0b0110#4 then .sbcImmShift (field w 28 4) (flag w 20) (field w 16 4) (field w 12 4) (field w 7 5) (field w 5 2) (field w 0 4)
  else if op = 0b0111#4 then .rscImmShift (field w 28 4) (flag w 20) (field w 16 4) (field w 12 4) (field w 7 5) (field w 5 2) (field w 0 4)
  else if op = 0b1000#4 then .tstImmShift (field w 28 4) (field w 16 4) (field w 12 4) (field w 7 5) (field w 5 2) (field w 0 4)
  else if op = 0b1001#4 then .teqImmShift (field w 28 4) (field w 16 4) (field w 12 4) (field w 7 5) (field w 5 2) (field w 0 4)
  else if op = 0b1010#4 then .cmpImmShift (field w 28 4) (field w 16 4) (field w 12 4) (field w 7 5) (field w 5 2) (field w 0 4)
  else if op = 0b1011#4 then .cmnImmShift (field w 28 4) (field w 16 4) (field w 12 4) (field w 7 5) (field w 5 2) (field w 0 4)
  else if op = 0b1100#4 then .orrImmShift (field w 28 4) (flag w 20) (field w 16 4) (field w 12 4) (field w 7 5) (field w 5 2) (field w 0 4)
  else if op = 0b1101#4 then .movImmShift (field w 28 4) (flag w 20) (field w 16 4) (field w 12 4) (field w 7 5) (field w 5 2) (field w 0 4)
  else if op = 0b1110#4 then .bicImmShift (field w 28 4) (flag w 20) (field w 16 4) (field w 12 4) (field w 7 5) (field w 5 2) (field w 0 4)
  else .mvnImmShift (field w 28 4) (flag w 20) (field w 16 4) (field w 12 4) (field w 7 5) (field w 5 2) (field w 0 4)

/-- Data processing, bits 27:25 = 000, bit 7 = 0, bit 4 = 1 (R302, R303): the operation by its opcode, bits 24:21. -/
def decodeDpRegShift (w : Word) (op : BitVec 4) : Instr :=
  if op = 0b0000#4 then .andRegShift (field w 28 4) (flag w 20) (field w 16 4) (field w 12 4) (field w 8 4) (field w 5 2) (field w 0 4)
  else if op = 0b0001#4 then .eorRegShift (field w 28 4) (flag w 20) (field w 16 4) (field w 12 4) (field w 8 4) (field w 5 2) (field w 0 4)
  else if op = 0b0010#4 then .subRegShift (field w 28 4) (flag w 20) (field w 16 4) (field w 12 4) (field w 8 4) (field w 5 2) (field w 0 4)
  else if op = 0b0011#4 then .rsbRegShift (field w 28 4) (flag w 20) (field w 16 4) (field w 12 4) (field w 8 4) (field w 5 2) (field w 0 4)
  else if op = 0b0100#4 then .addRegShift (field w 28 4) (flag w 20) (field w 16 4) (field w 12 4) (field w 8 4) (field w 5 2) (field w 0 4)
  else if op = 0b0101#4 then .adcRegShift (field w 28 4) (flag w 20) (field w 16 4) (field w 12 4) (field w 8 4) (field w 5 2) (field w 0 4)
  else if op = 0b0110#4 then .sbcRegShift (field w 28 4) (flag w 20) (field w 16 4) (field w 12 4) (field w 8 4) (field w 5 2) (field w 0 4)
  else if op = 0b0111#4 then .rscRegShift (field w 28 4) (flag w 20) (field w 16 4) (field w 12 4) (field w 8 4) (field w 5 2) (field w 0 4)
  else if op = 0b1000#4 then .tstRegShift (field w 28 4) (field w 16 4) (field w 12 4) (field w 8 4) (field w 5 2) (field w 0 4)
  else if op = 0b1001#4 then .teqRegShift (field w 28 4) (field w 16 4) (field w 12 4) (field w 8 4) (field w 5 2) (field w 0 4)
  else if op = 0b1010#4 then .cmpRegShift (field w 28 4) (field w 16 4) (field w 12 4) (field w 8 4) (field w 5 2) (field w 0 4)
  else if op = 0b1011#4 then .cmnRegShift (field w 28 4) (field w 16 4) (field w 12 4) (field w 8 4) (field w 5 2) (field w 0 4)
  else if op = 0b1100#4 then .orrRegShift (field w 28 4) (flag w 20) (field w 16 4) (field w 12 4) (field w 8 4) (field w 5 2) (field w 0 4)
  else if op = 0b1101#4 then .movRegShift (field w 28 4) (flag w 20) (field w 16 4) (field w 12 4) (field w 8 4) (field w 5 2) (field w 0 4)
  else if op = 0b1110#4 then .bicRegShift (field w 28 4) (flag w 20) (field w 16 4) (field w 12 4) (field w 8 4) (field w 5 2) (field w 0 4)
  else .mvnRegShift (field w 28 4) (flag w 20) (field w 16 4) (field w 12 4) (field w 8 4) (field w 5 2) (field w 0 4)

/-- Data processing, bits 27:25 = 001 (R302, R303): the operation by its opcode, bits 24:21. -/
def decodeDpImm (w : Word) (op : BitVec 4) : Instr :=
  if op = 0b0000#4 then .andImm (field w 28 4) (flag w 20) (field w 16 4) (field w 12 4) (field w 8 4) (field w 0 8)
  else if op = 0b0001#4 then .eorImm (field w 28 4) (flag w 20) (field w 16 4) (field w 12 4) (field w 8 4) (field w 0 8)
  else if op = 0b0010#4 then .subImm (field w 28 4) (flag w 20) (field w 16 4) (field w 12 4) (field w 8 4) (field w 0 8)
  else if op = 0b0011#4 then .rsbImm (field w 28 4) (flag w 20) (field w 16 4) (field w 12 4) (field w 8 4) (field w 0 8)
  else if op = 0b0100#4 then .addImm (field w 28 4) (flag w 20) (field w 16 4) (field w 12 4) (field w 8 4) (field w 0 8)
  else if op = 0b0101#4 then .adcImm (field w 28 4) (flag w 20) (field w 16 4) (field w 12 4) (field w 8 4) (field w 0 8)
  else if op = 0b0110#4 then .sbcImm (field w 28 4) (flag w 20) (field w 16 4) (field w 12 4) (field w 8 4) (field w 0 8)
  else if op = 0b0111#4 then .rscImm (field w 28 4) (flag w 20) (field w 16 4) (field w 12 4) (field w 8 4) (field w 0 8)
  else if op = 0b1000#4 then .tstImm (field w 28 4) (field w 16 4) (field w 12 4) (field w 8 4) (field w 0 8)
  else if op = 0b1001#4 then .teqImm (field w 28 4) (field w 16 4) (field w 12 4) (field w 8 4) (field w 0 8)
  else if op = 0b1010#4 then .cmpImm (field w 28 4) (field w 16 4) (field w 12 4) (field w 8 4) (field w 0 8)
  else if op = 0b1011#4 then .cmnImm (field w 28 4) (field w 16 4) (field w 12 4) (field w 8 4) (field w 0 8)
  else if op = 0b1100#4 then .orrImm (field w 28 4) (flag w 20) (field w 16 4) (field w 12 4) (field w 8 4) (field w 0 8)
  else if op = 0b1101#4 then .movImm (field w 28 4) (flag w 20) (field w 16 4) (field w 12 4) (field w 8 4) (field w 0 8)
  else if op = 0b1110#4 then .bicImm (field w 28 4) (flag w 20) (field w 16 4) (field w 12 4) (field w 8 4) (field w 0 8)
  else .mvnImm (field w 28 4) (flag w 20) (field w 16 4) (field w 12 4) (field w 8 4) (field w 0 8)

/-- Word and byte load/store, immediate offset: bits 27:25 = 010 (R302). P = 0 with W = 1 is the T form. -/
def decodeLoadStoreImm (w : Word) : Instr :=
  if flag w 20 && flag w 22 then (if flag w 24 then .ldrbImmPre (field w 28 4) (flag w 23) (flag w 21) (field w 16 4) (field w 12 4) (field w 0 12)
    else if flag w 21 then .ldrbtImm (field w 28 4) (flag w 23) (field w 16 4) (field w 12 4) (field w 0 12)
    else .ldrbImmPost (field w 28 4) (flag w 23) (field w 16 4) (field w 12 4) (field w 0 12))
  else if flag w 20 then (if flag w 24 then .ldrImmPre (field w 28 4) (flag w 23) (flag w 21) (field w 16 4) (field w 12 4) (field w 0 12)
    else if flag w 21 then .ldrtImm (field w 28 4) (flag w 23) (field w 16 4) (field w 12 4) (field w 0 12)
    else .ldrImmPost (field w 28 4) (flag w 23) (field w 16 4) (field w 12 4) (field w 0 12))
  else if flag w 22 then (if flag w 24 then .strbImmPre (field w 28 4) (flag w 23) (flag w 21) (field w 16 4) (field w 12 4) (field w 0 12)
    else if flag w 21 then .strbtImm (field w 28 4) (flag w 23) (field w 16 4) (field w 12 4) (field w 0 12)
    else .strbImmPost (field w 28 4) (flag w 23) (field w 16 4) (field w 12 4) (field w 0 12))
  else (if flag w 24 then .strImmPre (field w 28 4) (flag w 23) (flag w 21) (field w 16 4) (field w 12 4) (field w 0 12)
    else if flag w 21 then .strtImm (field w 28 4) (flag w 23) (field w 16 4) (field w 12 4) (field w 0 12)
    else .strImmPost (field w 28 4) (flag w 23) (field w 16 4) (field w 12 4) (field w 0 12))

/-- Word and byte load/store, register offset: bits 27:25 = 011, bit 4 = 0 (R302). -/
def decodeLoadStoreReg (w : Word) : Instr :=
  if flag w 20 && flag w 22 then (if flag w 24 then .ldrbRegPre (field w 28 4) (flag w 23) (flag w 21) (field w 16 4) (field w 12 4) (field w 7 5) (field w 5 2) (field w 0 4)
    else if flag w 21 then .ldrbtReg (field w 28 4) (flag w 23) (field w 16 4) (field w 12 4) (field w 7 5) (field w 5 2) (field w 0 4)
    else .ldrbRegPost (field w 28 4) (flag w 23) (field w 16 4) (field w 12 4) (field w 7 5) (field w 5 2) (field w 0 4))
  else if flag w 20 then (if flag w 24 then .ldrRegPre (field w 28 4) (flag w 23) (flag w 21) (field w 16 4) (field w 12 4) (field w 7 5) (field w 5 2) (field w 0 4)
    else if flag w 21 then .ldrtReg (field w 28 4) (flag w 23) (field w 16 4) (field w 12 4) (field w 7 5) (field w 5 2) (field w 0 4)
    else .ldrRegPost (field w 28 4) (flag w 23) (field w 16 4) (field w 12 4) (field w 7 5) (field w 5 2) (field w 0 4))
  else if flag w 22 then (if flag w 24 then .strbRegPre (field w 28 4) (flag w 23) (flag w 21) (field w 16 4) (field w 12 4) (field w 7 5) (field w 5 2) (field w 0 4)
    else if flag w 21 then .strbtReg (field w 28 4) (flag w 23) (field w 16 4) (field w 12 4) (field w 7 5) (field w 5 2) (field w 0 4)
    else .strbRegPost (field w 28 4) (flag w 23) (field w 16 4) (field w 12 4) (field w 7 5) (field w 5 2) (field w 0 4))
  else (if flag w 24 then .strRegPre (field w 28 4) (flag w 23) (flag w 21) (field w 16 4) (field w 12 4) (field w 7 5) (field w 5 2) (field w 0 4)
    else if flag w 21 then .strtReg (field w 28 4) (flag w 23) (field w 16 4) (field w 12 4) (field w 7 5) (field w 5 2) (field w 0 4)
    else .strRegPost (field w 28 4) (flag w 23) (field w 16 4) (field w 12 4) (field w 7 5) (field w 5 2) (field w 0 4))

/-- Load/store multiple: bits 27:25 = 100; bit 22 is S, and bit 15 tells LDM(2) from LDM(3) (R302). -/
def decodeMultiple (w : Word) : Instr :=
  if flag w 20 && flag w 22 then (if flag w 15 then .ldm3 (field w 28 4) (flag w 24) (flag w 23) (flag w 21) (field w 16 4) (field w 0 15)
    else .ldm2 (field w 28 4) (flag w 24) (flag w 23) (flag w 21) (field w 16 4) (field w 0 15))
  else if flag w 20 then .ldm1 (field w 28 4) (flag w 24) (flag w 23) (flag w 21) (field w 16 4) (field w 0 16)
  else if flag w 22 then .stm2 (field w 28 4) (flag w 24) (flag w 23) (flag w 21) (field w 16 4) (field w 0 16)
  else .stm1 (field w 28 4) (flag w 24) (flag w 23) (flag w 21) (field w 16 4) (field w 0 16)

/-- Coprocessor load/store and double transfer: bits 27:25 = 110 (R303). -/
def decodeCoprocLoadStore (w : Word) : Instr :=
  if field w 20 5 = 0b00100#5 then .mcrr (field w 28 4) (field w 16 4) (field w 12 4) (field w 8 4) (field w 4 4) (field w 0 4)
  else if field w 20 5 = 0b00101#5 then .mrrc (field w 28 4) (field w 16 4) (field w 12 4) (field w 8 4) (field w 4 4) (field w 0 4)
  else if field w 21 4 = 0b0000#4 then .undefCpLsSpace (field w 28 4) (field w 0 21)
  else if flag w 24 then (if flag w 20 then .ldcPre (field w 28 4) (flag w 23) (flag w 22) (flag w 21) (field w 16 4) (field w 12 4) (field w 8 4) (field w 0 8)
    else .stcPre (field w 28 4) (flag w 23) (flag w 22) (flag w 21) (field w 16 4) (field w 12 4) (field w 8 4) (field w 0 8))
  else if flag w 21 then (if flag w 20 then .ldcPost (field w 28 4) (flag w 23) (flag w 22) (field w 16 4) (field w 12 4) (field w 8 4) (field w 0 8)
    else .stcPost (field w 28 4) (flag w 23) (flag w 22) (field w 16 4) (field w 12 4) (field w 8 4) (field w 0 8))
  else (if flag w 20 then .ldcUnindexed (field w 28 4) (flag w 22) (field w 16 4) (field w 12 4) (field w 8 4) (field w 0 8)
    else .stcUnindexed (field w 28 4) (flag w 22) (field w 16 4) (field w 12 4) (field w 8 4) (field w 0 8))

/-- Bits 27:25 = 111: SWI, CDP, MCR and MRC (R303). -/
def decodeSwiCoproc (w : Word) : Instr :=
  if flag w 24 then .swi (field w 28 4) (field w 0 24)
  else if !flag w 4 then .cdp (field w 28 4) (field w 20 4) (field w 16 4) (field w 12 4) (field w 8 4) (field w 5 3) (field w 0 4)
  else if flag w 20 then .mrc (field w 28 4) (field w 21 3) (field w 16 4) (field w 12 4) (field w 8 4) (field w 5 3) (field w 0 4)
  else .mcr (field w 28 4) (field w 21 3) (field w 16 4) (field w 12 4) (field w 8 4) (field w 5 3) (field w 0 4)

/-- The cond = 1111 space (R319): BLX immediate, the rows the spec names as skipped, and the rest. -/
def decodeUnconditional (w : Word) : Instr :=
  if field w 25 3 = 0b101#3 then .blxImm (flag w 24) (field w 0 24)
  else if field w 24 4 = 0b0101#4 ∧ field w 20 3 = 0b101#3 then .pldImm (flag w 23) (field w 16 4) (field w 12 4) (field w 0 12)
  else if field w 24 4 = 0b0111#4 ∧ field w 20 3 = 0b101#3 ∧ flag w 4 = false then .pldReg (flag w 23) (field w 16 4) (field w 12 4) (field w 7 5) (field w 5 2) (field w 0 4)
  else if field w 25 3 = 0b110#3 then (if flag w 20 then .ldc2 (flag w 24) (flag w 23) (flag w 22) (flag w 21) (field w 16 4) (field w 12 4) (field w 8 4) (field w 0 8)
    else .stc2 (flag w 24) (flag w 23) (flag w 22) (flag w 21) (field w 16 4) (field w 12 4) (field w 8 4) (field w 0 8))
  else if field w 24 4 = 0b1110#4 then (if !flag w 4 then .cdp2 (field w 20 4) (field w 16 4) (field w 12 4) (field w 8 4) (field w 5 3) (field w 0 4)
    else if flag w 20 then .mrc2 (field w 21 3) (field w 16 4) (field w 12 4) (field w 8 4) (field w 5 3) (field w 0 4)
    else .mcr2 (field w 21 3) (field w 16 4) (field w 12 4) (field w 8 4) (field w 5 3) (field w 0 4))
  else .nvSkipped (field w 0 28)

/-- The data-processing, multiply, extra load/store and miscellaneous spaces: bits 27:25 = 000 (R303). -/
def decodeSpace000 (w : Word) : Instr :=
  if flag w 7 && flag w 4 then (if field w 5 2 = 0b00#2 then decodeMulSwap w else decodeExtraLoadStore w)
  else if field w 23 2 = 0b10#2 ∧ flag w 20 = false then decodeMisc w
  else if flag w 4 then decodeDpRegShift w (field w 21 4)
  else decodeDpImmShift w (field w 21 4)

/-- The immediate data-processing and MSR space: bits 27:25 = 001 (R303). -/
def decodeSpace001 (w : Word) : Instr :=
  if field w 23 2 = 0b10#2 ∧ flag w 20 = false then
    (if flag w 21 then .msrImm (field w 28 4) (flag w 22) (field w 16 4) (field w 12 4) (field w 8 4) (field w 0 8)
    else .undefMsrImmSpace (field w 28 4) (field w 22 1) (field w 0 20))
  else decodeDpImm w (field w 21 4)

/-- A word whose condition field is not 1111, by bits 27:25 (R303). -/
def decodeConditional (w : Word) (c : BitVec 3) : Instr :=
  if c = 0b000#3 then decodeSpace000 w
  else if c = 0b001#3 then decodeSpace001 w
  else if c = 0b010#3 then decodeLoadStoreImm w
  else if c = 0b011#3 then
    (if flag w 4 then .undefLsRegBit4 (field w 28 4) (field w 5 20) (field w 0 4) else decodeLoadStoreReg w)
  else if c = 0b100#3 then decodeMultiple w
  else if c = 0b101#3 then (if flag w 24 then .bl (field w 28 4) (field w 0 24) else .b (field w 28 4) (field w 0 24))
  else if c = 0b110#3 then decodeCoprocLoadStore w
  else decodeSwiCoproc w

/-- The ARM-state decoder: the row of a 32-bit word (R303, R319). -/
def decodeArm (w : Word) : Instr :=
  if field w 28 4 = 0b1111#4 then decodeUnconditional w else decodeConditional w (field w 25 3)

/-! ### Thumb state: R331 -/

/-- Format 4: the operation by bits 9:6 (R330). -/
def decodeThumbAlu (w : Half) (op : BitVec 4) : Instr :=
  if op = 0b0000#4 then .tAnd (field w 3 3) (field w 0 3)
  else if op = 0b0001#4 then .tEor (field w 3 3) (field w 0 3)
  else if op = 0b0010#4 then .tLslReg (field w 3 3) (field w 0 3)
  else if op = 0b0011#4 then .tLsrReg (field w 3 3) (field w 0 3)
  else if op = 0b0100#4 then .tAsrReg (field w 3 3) (field w 0 3)
  else if op = 0b0101#4 then .tAdc (field w 3 3) (field w 0 3)
  else if op = 0b0110#4 then .tSbc (field w 3 3) (field w 0 3)
  else if op = 0b0111#4 then .tRor (field w 3 3) (field w 0 3)
  else if op = 0b1000#4 then .tTst (field w 3 3) (field w 0 3)
  else if op = 0b1001#4 then .tNeg (field w 3 3) (field w 0 3)
  else if op = 0b1010#4 then .tCmpReg (field w 3 3) (field w 0 3)
  else if op = 0b1011#4 then .tCmn (field w 3 3) (field w 0 3)
  else if op = 0b1100#4 then .tOrr (field w 3 3) (field w 0 3)
  else if op = 0b1101#4 then .tMul (field w 3 3) (field w 0 3)
  else if op = 0b1110#4 then .tBic (field w 3 3) (field w 0 3)
  else .tMvn (field w 3 3) (field w 0 3)

/-- Formats 7 and 8: the operation by bits 11:9 (R330). -/
def decodeThumbLsReg (w : Half) (op : BitVec 3) : Instr :=
  if op = 0b000#3 then .tStrReg (field w 6 3) (field w 3 3) (field w 0 3)
  else if op = 0b001#3 then .tStrhReg (field w 6 3) (field w 3 3) (field w 0 3)
  else if op = 0b010#3 then .tStrbReg (field w 6 3) (field w 3 3) (field w 0 3)
  else if op = 0b011#3 then .tLdrsbReg (field w 6 3) (field w 3 3) (field w 0 3)
  else if op = 0b100#3 then .tLdrReg (field w 6 3) (field w 3 3) (field w 0 3)
  else if op = 0b101#3 then .tLdrhReg (field w 6 3) (field w 3 3) (field w 0 3)
  else if op = 0b110#3 then .tLdrbReg (field w 6 3) (field w 3 3) (field w 0 3)
  else .tLdrshReg (field w 6 3) (field w 3 3) (field w 0 3)

/-- Bits 15:12 = 1011: formats 13 and 14, BKPT and the undefined rest (R331, R341). -/
def decodeThumbMisc (w : Half) : Instr :=
  if field w 8 4 = 0b0000#4 then (if flag w 7 then .tSubSpImm (field w 0 7)
    else .tAddSpImm (field w 0 7))
  else if field w 9 2 = 0b10#2 then (if flag w 11 then .tPop (flag w 8) (field w 0 8)
    else .tPush (flag w 8) (field w 0 8))
  else if field w 8 4 = 0b1110#4 then .tBkpt (field w 0 8)
  else if field w 8 4 = 0b0001#4 then .tUndefB1 (field w 0 8)
  else if field w 9 3 = 0b001#3 then .tUndefB2B3 (field w 0 9)
  else if field w 9 3 = 0b011#3 then .tUndefB6B7 (field w 0 9)
  else if field w 10 2 = 0b10#2 then .tUndefB8Bb (field w 0 10)
  else .tUndefBf (field w 0 8)

/-- Bits 15:13 = 000: formats 1 and 2 (R331). -/
def decodeThumbShiftAdd (w : Half) : Instr :=
  if field w 11 2 = 0b00#2 then .tLslImm (field w 6 5) (field w 3 3) (field w 0 3)
  else if field w 11 2 = 0b01#2 then .tLsrImm (field w 6 5) (field w 3 3) (field w 0 3)
  else if field w 11 2 = 0b10#2 then .tAsrImm (field w 6 5) (field w 3 3) (field w 0 3)
  else (if field w 9 2 = 0b00#2 then .tAddReg (field w 6 3) (field w 3 3) (field w 0 3)
    else if field w 9 2 = 0b01#2 then .tSubReg (field w 6 3) (field w 3 3) (field w 0 3)
    else if field w 9 2 = 0b10#2 then .tAddImm3 (field w 6 3) (field w 3 3) (field w 0 3)
    else .tSubImm3 (field w 6 3) (field w 3 3) (field w 0 3))

/-- Bits 15:13 = 010: formats 4 to 8 (R331). -/
def decodeThumbSpace010 (w : Half) : Instr :=
  if flag w 12 then decodeThumbLsReg w (field w 9 3)
  else if flag w 11 then .tLdrPc (field w 8 3) (field w 0 8)
  else if !flag w 10 then decodeThumbAlu w (field w 6 4)
  else if field w 8 2 = 0b00#2 then .tAddHi (flag w 7) (flag w 6) (field w 3 3) (field w 0 3)
  else if field w 8 2 = 0b01#2 then .tCmpHi (flag w 7) (flag w 6) (field w 3 3) (field w 0 3)
  else if field w 8 2 = 0b10#2 then .tMovHi (flag w 7) (flag w 6) (field w 3 3) (field w 0 3)
  else (if flag w 7 then .tBlxReg (flag w 6) (field w 3 3) (field w 0 3)
    else .tBx (flag w 6) (field w 3 3) (field w 0 3))

/-- Bits 15:13 = 111: formats 18 and 19 (R331). -/
def decodeThumbBranch (w : Half) : Instr :=
  if field w 11 2 = 0b00#2 then .tB (field w 0 11)
  else if field w 11 2 = 0b01#2 then (if flag w 0 then .tUndefBlxOdd (field w 1 10)
    else .tBlxSuffix (field w 1 10))
  else if field w 11 2 = 0b10#2 then .tBlPrefix (field w 0 11)
  else .tBlSuffix (field w 0 11)

/-- Bits 15:13 = 110: formats 15 to 17 (R331). -/
def decodeThumbSpace110 (w : Half) : Instr :=
  if !flag w 12 then (if flag w 11 then .tLdmia (field w 8 3) (field w 0 8)
    else .tStmia (field w 8 3) (field w 0 8))
  else if field w 8 4 = 0b1110#4 then .tUndefCondE (field w 0 8)
  else if field w 8 4 = 0b1111#4 then .tSwi (field w 0 8)
  else .tBCond (field w 8 4) (field w 0 8)

/-- The Thumb-state decoder: the row of a halfword, by bits 15:13 (R331). -/
def decodeThumb (w : Half) : Instr :=
  if field w 13 3 = 0b000#3 then decodeThumbShiftAdd w
  else if field w 13 3 = 0b001#3 then (if field w 11 2 = 0b00#2 then .tMovImm (field w 8 3) (field w 0 8)
    else if field w 11 2 = 0b01#2 then .tCmpImm (field w 8 3) (field w 0 8)
    else if field w 11 2 = 0b10#2 then .tAddImm8 (field w 8 3) (field w 0 8)
    else .tSubImm8 (field w 8 3) (field w 0 8))
  else if field w 13 3 = 0b010#3 then decodeThumbSpace010 w
  else if field w 13 3 = 0b011#3 then (if field w 11 2 = 0b00#2 then .tStrImm (field w 6 5) (field w 3 3) (field w 0 3)
    else if field w 11 2 = 0b01#2 then .tLdrImm (field w 6 5) (field w 3 3) (field w 0 3)
    else if field w 11 2 = 0b10#2 then .tStrbImm (field w 6 5) (field w 3 3) (field w 0 3)
    else .tLdrbImm (field w 6 5) (field w 3 3) (field w 0 3))
  else if field w 13 3 = 0b100#3 then (if field w 11 2 = 0b00#2 then .tStrhImm (field w 6 5) (field w 3 3) (field w 0 3)
    else if field w 11 2 = 0b01#2 then .tLdrhImm (field w 6 5) (field w 3 3) (field w 0 3)
    else if field w 11 2 = 0b10#2 then .tStrSp (field w 8 3) (field w 0 8)
    else .tLdrSp (field w 8 3) (field w 0 8))
  else if field w 13 3 = 0b101#3 then (if flag w 12 then decodeThumbMisc w
    else if flag w 11 then .tAddSp (field w 8 3) (field w 0 8)
    else .tAddPc (field w 8 3) (field w 0 8))
  else if field w 13 3 = 0b110#3 then decodeThumbSpace110 w
  else decodeThumbBranch w

/-! ### Bytes -/

/-- Why bytes do not decode. -/
inductive DecodeError where
  /-- Fewer bytes than the instruction set's width (R300: 4 in ARM state, 2 in Thumb state). -/
  | truncated
  deriving DecidableEq, Repr

/-- Decode the instruction at the front of a list of bytes, in Thumb state or ARM state (R300: the state
alone tells the length), little-endian (R205); answers the bytes that are left. -/
def decodeBytes (thumb : Bool) (bytes : List Byte) : Except DecodeError (Instr × List Byte) :=
  match thumb, bytes with
  | true, b0 :: b1 :: rest => .ok (decodeThumb (b1 ++ b0), rest)
  | false, b0 :: b1 :: b2 :: b3 :: rest => .ok (decodeArm (b3 ++ b2 ++ b1 ++ b0), rest)
  | _, _ => .error .truncated

/-- The bytes of a number, lowest first: how memory holds an instruction (R205). -/
def littleEndianBytes (n w : Nat) : List Byte := (List.range n).map fun k => BitVec.ofNat 8 (w >>> (8 * k))

/-- The instruction the decoder reads from a table word of `nbits` bits: 16-bit rows are Thumb, 32-bit
rows ARM; every other width is refused. -/
def decodeTableWord (nbits w : Nat) : Option Instr :=
  if nbits = 16 ∨ nbits = 32 then
    match decodeBytes (nbits == 16) (littleEndianBytes (nbits / 8) w) with
    | .ok (i, []) => some i
    | _ => none
  else none

/-! ### The encoder -/

/-- The 32-bit word of an ARM instruction (R302 and the table's encodings); 0 for a Thumb instruction. -/
def encodeArm : Instr → Word
  | .andImmShift cond sf rn rd imm st rm => cond ++ 0b0000000#7 ++ BitVec.ofBool sf ++ rn ++ rd ++ imm ++ st ++ 0b0#1 ++ rm
  | .andRegShift cond sf rn rd rs st rm => cond ++ 0b0000000#7 ++ BitVec.ofBool sf ++ rn ++ rd ++ rs ++ 0b0#1 ++ st ++ 0b1#1 ++ rm
  | .andImm cond sf rn rd rot imm => cond ++ 0b0010000#7 ++ BitVec.ofBool sf ++ rn ++ rd ++ rot ++ imm
  | .eorImmShift cond sf rn rd imm st rm => cond ++ 0b0000001#7 ++ BitVec.ofBool sf ++ rn ++ rd ++ imm ++ st ++ 0b0#1 ++ rm
  | .eorRegShift cond sf rn rd rs st rm => cond ++ 0b0000001#7 ++ BitVec.ofBool sf ++ rn ++ rd ++ rs ++ 0b0#1 ++ st ++ 0b1#1 ++ rm
  | .eorImm cond sf rn rd rot imm => cond ++ 0b0010001#7 ++ BitVec.ofBool sf ++ rn ++ rd ++ rot ++ imm
  | .subImmShift cond sf rn rd imm st rm => cond ++ 0b0000010#7 ++ BitVec.ofBool sf ++ rn ++ rd ++ imm ++ st ++ 0b0#1 ++ rm
  | .subRegShift cond sf rn rd rs st rm => cond ++ 0b0000010#7 ++ BitVec.ofBool sf ++ rn ++ rd ++ rs ++ 0b0#1 ++ st ++ 0b1#1 ++ rm
  | .subImm cond sf rn rd rot imm => cond ++ 0b0010010#7 ++ BitVec.ofBool sf ++ rn ++ rd ++ rot ++ imm
  | .rsbImmShift cond sf rn rd imm st rm => cond ++ 0b0000011#7 ++ BitVec.ofBool sf ++ rn ++ rd ++ imm ++ st ++ 0b0#1 ++ rm
  | .rsbRegShift cond sf rn rd rs st rm => cond ++ 0b0000011#7 ++ BitVec.ofBool sf ++ rn ++ rd ++ rs ++ 0b0#1 ++ st ++ 0b1#1 ++ rm
  | .rsbImm cond sf rn rd rot imm => cond ++ 0b0010011#7 ++ BitVec.ofBool sf ++ rn ++ rd ++ rot ++ imm
  | .addImmShift cond sf rn rd imm st rm => cond ++ 0b0000100#7 ++ BitVec.ofBool sf ++ rn ++ rd ++ imm ++ st ++ 0b0#1 ++ rm
  | .addRegShift cond sf rn rd rs st rm => cond ++ 0b0000100#7 ++ BitVec.ofBool sf ++ rn ++ rd ++ rs ++ 0b0#1 ++ st ++ 0b1#1 ++ rm
  | .addImm cond sf rn rd rot imm => cond ++ 0b0010100#7 ++ BitVec.ofBool sf ++ rn ++ rd ++ rot ++ imm
  | .adcImmShift cond sf rn rd imm st rm => cond ++ 0b0000101#7 ++ BitVec.ofBool sf ++ rn ++ rd ++ imm ++ st ++ 0b0#1 ++ rm
  | .adcRegShift cond sf rn rd rs st rm => cond ++ 0b0000101#7 ++ BitVec.ofBool sf ++ rn ++ rd ++ rs ++ 0b0#1 ++ st ++ 0b1#1 ++ rm
  | .adcImm cond sf rn rd rot imm => cond ++ 0b0010101#7 ++ BitVec.ofBool sf ++ rn ++ rd ++ rot ++ imm
  | .sbcImmShift cond sf rn rd imm st rm => cond ++ 0b0000110#7 ++ BitVec.ofBool sf ++ rn ++ rd ++ imm ++ st ++ 0b0#1 ++ rm
  | .sbcRegShift cond sf rn rd rs st rm => cond ++ 0b0000110#7 ++ BitVec.ofBool sf ++ rn ++ rd ++ rs ++ 0b0#1 ++ st ++ 0b1#1 ++ rm
  | .sbcImm cond sf rn rd rot imm => cond ++ 0b0010110#7 ++ BitVec.ofBool sf ++ rn ++ rd ++ rot ++ imm
  | .rscImmShift cond sf rn rd imm st rm => cond ++ 0b0000111#7 ++ BitVec.ofBool sf ++ rn ++ rd ++ imm ++ st ++ 0b0#1 ++ rm
  | .rscRegShift cond sf rn rd rs st rm => cond ++ 0b0000111#7 ++ BitVec.ofBool sf ++ rn ++ rd ++ rs ++ 0b0#1 ++ st ++ 0b1#1 ++ rm
  | .rscImm cond sf rn rd rot imm => cond ++ 0b0010111#7 ++ BitVec.ofBool sf ++ rn ++ rd ++ rot ++ imm
  | .tstImmShift cond rn sbz imm st rm => cond ++ 0b00010001#8 ++ rn ++ sbz ++ imm ++ st ++ 0b0#1 ++ rm
  | .tstRegShift cond rn sbz rs st rm => cond ++ 0b00010001#8 ++ rn ++ sbz ++ rs ++ 0b0#1 ++ st ++ 0b1#1 ++ rm
  | .tstImm cond rn sbz rot imm => cond ++ 0b00110001#8 ++ rn ++ sbz ++ rot ++ imm
  | .teqImmShift cond rn sbz imm st rm => cond ++ 0b00010011#8 ++ rn ++ sbz ++ imm ++ st ++ 0b0#1 ++ rm
  | .teqRegShift cond rn sbz rs st rm => cond ++ 0b00010011#8 ++ rn ++ sbz ++ rs ++ 0b0#1 ++ st ++ 0b1#1 ++ rm
  | .teqImm cond rn sbz rot imm => cond ++ 0b00110011#8 ++ rn ++ sbz ++ rot ++ imm
  | .cmpImmShift cond rn sbz imm st rm => cond ++ 0b00010101#8 ++ rn ++ sbz ++ imm ++ st ++ 0b0#1 ++ rm
  | .cmpRegShift cond rn sbz rs st rm => cond ++ 0b00010101#8 ++ rn ++ sbz ++ rs ++ 0b0#1 ++ st ++ 0b1#1 ++ rm
  | .cmpImm cond rn sbz rot imm => cond ++ 0b00110101#8 ++ rn ++ sbz ++ rot ++ imm
  | .cmnImmShift cond rn sbz imm st rm => cond ++ 0b00010111#8 ++ rn ++ sbz ++ imm ++ st ++ 0b0#1 ++ rm
  | .cmnRegShift cond rn sbz rs st rm => cond ++ 0b00010111#8 ++ rn ++ sbz ++ rs ++ 0b0#1 ++ st ++ 0b1#1 ++ rm
  | .cmnImm cond rn sbz rot imm => cond ++ 0b00110111#8 ++ rn ++ sbz ++ rot ++ imm
  | .orrImmShift cond sf rn rd imm st rm => cond ++ 0b0001100#7 ++ BitVec.ofBool sf ++ rn ++ rd ++ imm ++ st ++ 0b0#1 ++ rm
  | .orrRegShift cond sf rn rd rs st rm => cond ++ 0b0001100#7 ++ BitVec.ofBool sf ++ rn ++ rd ++ rs ++ 0b0#1 ++ st ++ 0b1#1 ++ rm
  | .orrImm cond sf rn rd rot imm => cond ++ 0b0011100#7 ++ BitVec.ofBool sf ++ rn ++ rd ++ rot ++ imm
  | .movImmShift cond sf sbz rd imm st rm => cond ++ 0b0001101#7 ++ BitVec.ofBool sf ++ sbz ++ rd ++ imm ++ st ++ 0b0#1 ++ rm
  | .movRegShift cond sf sbz rd rs st rm => cond ++ 0b0001101#7 ++ BitVec.ofBool sf ++ sbz ++ rd ++ rs ++ 0b0#1 ++ st ++ 0b1#1 ++ rm
  | .movImm cond sf sbz rd rot imm => cond ++ 0b0011101#7 ++ BitVec.ofBool sf ++ sbz ++ rd ++ rot ++ imm
  | .bicImmShift cond sf rn rd imm st rm => cond ++ 0b0001110#7 ++ BitVec.ofBool sf ++ rn ++ rd ++ imm ++ st ++ 0b0#1 ++ rm
  | .bicRegShift cond sf rn rd rs st rm => cond ++ 0b0001110#7 ++ BitVec.ofBool sf ++ rn ++ rd ++ rs ++ 0b0#1 ++ st ++ 0b1#1 ++ rm
  | .bicImm cond sf rn rd rot imm => cond ++ 0b0011110#7 ++ BitVec.ofBool sf ++ rn ++ rd ++ rot ++ imm
  | .mvnImmShift cond sf sbz rd imm st rm => cond ++ 0b0001111#7 ++ BitVec.ofBool sf ++ sbz ++ rd ++ imm ++ st ++ 0b0#1 ++ rm
  | .mvnRegShift cond sf sbz rd rs st rm => cond ++ 0b0001111#7 ++ BitVec.ofBool sf ++ sbz ++ rd ++ rs ++ 0b0#1 ++ st ++ 0b1#1 ++ rm
  | .mvnImm cond sf sbz rd rot imm => cond ++ 0b0011111#7 ++ BitVec.ofBool sf ++ sbz ++ rd ++ rot ++ imm
  | .mrs cond r sbo rd sbz1 sbz2 => cond ++ 0b00010#5 ++ BitVec.ofBool r ++ 0b00#2 ++ sbo ++ rd ++ sbz1 ++ 0b0000#4 ++ sbz2
  | .msrReg cond r fm sbo sbz rm => cond ++ 0b00010#5 ++ BitVec.ofBool r ++ 0b10#2 ++ fm ++ sbo ++ sbz ++ 0b0000#4 ++ rm
  | .msrImm cond r fm sbo rot imm => cond ++ 0b00110#5 ++ BitVec.ofBool r ++ 0b10#2 ++ fm ++ sbo ++ rot ++ imm
  | .clz cond sbo1 rd sbo2 rm => cond ++ 0b00010110#8 ++ sbo1 ++ rd ++ sbo2 ++ 0b0001#4 ++ rm
  | .qadd cond rn rd sbz rm => cond ++ 0b00010000#8 ++ rn ++ rd ++ sbz ++ 0b0101#4 ++ rm
  | .qsub cond rn rd sbz rm => cond ++ 0b00010010#8 ++ rn ++ rd ++ sbz ++ 0b0101#4 ++ rm
  | .qdadd cond rn rd sbz rm => cond ++ 0b00010100#8 ++ rn ++ rd ++ sbz ++ 0b0101#4 ++ rm
  | .qdsub cond rn rd sbz rm => cond ++ 0b00010110#8 ++ rn ++ rd ++ sbz ++ 0b0101#4 ++ rm
  | .mul cond sf rd sbz rs rm => cond ++ 0b0000000#7 ++ BitVec.ofBool sf ++ rd ++ sbz ++ rs ++ 0b1001#4 ++ rm
  | .mla cond sf rd rn rs rm => cond ++ 0b0000001#7 ++ BitVec.ofBool sf ++ rd ++ rn ++ rs ++ 0b1001#4 ++ rm
  | .umull cond sf rdHi rdLo rs rm => cond ++ 0b0000100#7 ++ BitVec.ofBool sf ++ rdHi ++ rdLo ++ rs ++ 0b1001#4 ++ rm
  | .umlal cond sf rdHi rdLo rs rm => cond ++ 0b0000101#7 ++ BitVec.ofBool sf ++ rdHi ++ rdLo ++ rs ++ 0b1001#4 ++ rm
  | .smull cond sf rdHi rdLo rs rm => cond ++ 0b0000110#7 ++ BitVec.ofBool sf ++ rdHi ++ rdLo ++ rs ++ 0b1001#4 ++ rm
  | .smlal cond sf rdHi rdLo rs rm => cond ++ 0b0000111#7 ++ BitVec.ofBool sf ++ rdHi ++ rdLo ++ rs ++ 0b1001#4 ++ rm
  | .smlaXY cond rd rn rs y x rm => cond ++ 0b00010000#8 ++ rd ++ rn ++ rs ++ 0b1#1 ++ BitVec.ofBool y ++ BitVec.ofBool x ++ 0b0#1 ++ rm
  | .smlawY cond rd rn rs y rm => cond ++ 0b00010010#8 ++ rd ++ rn ++ rs ++ 0b1#1 ++ BitVec.ofBool y ++ 0b00#2 ++ rm
  | .smulwY cond rd sbz rs y rm => cond ++ 0b00010010#8 ++ rd ++ sbz ++ rs ++ 0b1#1 ++ BitVec.ofBool y ++ 0b10#2 ++ rm
  | .smlalXY cond rdHi rdLo rs y x rm => cond ++ 0b00010100#8 ++ rdHi ++ rdLo ++ rs ++ 0b1#1 ++ BitVec.ofBool y ++ BitVec.ofBool x ++ 0b0#1 ++ rm
  | .smulXY cond rd sbz rs y x rm => cond ++ 0b00010110#8 ++ rd ++ sbz ++ rs ++ 0b1#1 ++ BitVec.ofBool y ++ BitVec.ofBool x ++ 0b0#1 ++ rm
  | .swp cond rn rd sbz rm => cond ++ 0b00010000#8 ++ rn ++ rd ++ sbz ++ 0b1001#4 ++ rm
  | .swpb cond rn rd sbz rm => cond ++ 0b00010100#8 ++ rn ++ rd ++ sbz ++ 0b1001#4 ++ rm
  | .ldrImmPre cond u w rn rd imm => cond ++ 0b0101#4 ++ BitVec.ofBool u ++ 0b0#1 ++ BitVec.ofBool w ++ 0b1#1 ++ rn ++ rd ++ imm
  | .ldrImmPost cond u rn rd imm => cond ++ 0b0100#4 ++ BitVec.ofBool u ++ 0b001#3 ++ rn ++ rd ++ imm
  | .ldrRegPre cond u w rn rd imm st rm => cond ++ 0b0111#4 ++ BitVec.ofBool u ++ 0b0#1 ++ BitVec.ofBool w ++ 0b1#1 ++ rn ++ rd ++ imm ++ st ++ 0b0#1 ++ rm
  | .ldrRegPost cond u rn rd imm st rm => cond ++ 0b0110#4 ++ BitVec.ofBool u ++ 0b001#3 ++ rn ++ rd ++ imm ++ st ++ 0b0#1 ++ rm
  | .ldrbImmPre cond u w rn rd imm => cond ++ 0b0101#4 ++ BitVec.ofBool u ++ 0b1#1 ++ BitVec.ofBool w ++ 0b1#1 ++ rn ++ rd ++ imm
  | .ldrbImmPost cond u rn rd imm => cond ++ 0b0100#4 ++ BitVec.ofBool u ++ 0b101#3 ++ rn ++ rd ++ imm
  | .ldrbRegPre cond u w rn rd imm st rm => cond ++ 0b0111#4 ++ BitVec.ofBool u ++ 0b1#1 ++ BitVec.ofBool w ++ 0b1#1 ++ rn ++ rd ++ imm ++ st ++ 0b0#1 ++ rm
  | .ldrbRegPost cond u rn rd imm st rm => cond ++ 0b0110#4 ++ BitVec.ofBool u ++ 0b101#3 ++ rn ++ rd ++ imm ++ st ++ 0b0#1 ++ rm
  | .strImmPre cond u w rn rd imm => cond ++ 0b0101#4 ++ BitVec.ofBool u ++ 0b0#1 ++ BitVec.ofBool w ++ 0b0#1 ++ rn ++ rd ++ imm
  | .strImmPost cond u rn rd imm => cond ++ 0b0100#4 ++ BitVec.ofBool u ++ 0b000#3 ++ rn ++ rd ++ imm
  | .strRegPre cond u w rn rd imm st rm => cond ++ 0b0111#4 ++ BitVec.ofBool u ++ 0b0#1 ++ BitVec.ofBool w ++ 0b0#1 ++ rn ++ rd ++ imm ++ st ++ 0b0#1 ++ rm
  | .strRegPost cond u rn rd imm st rm => cond ++ 0b0110#4 ++ BitVec.ofBool u ++ 0b000#3 ++ rn ++ rd ++ imm ++ st ++ 0b0#1 ++ rm
  | .strbImmPre cond u w rn rd imm => cond ++ 0b0101#4 ++ BitVec.ofBool u ++ 0b1#1 ++ BitVec.ofBool w ++ 0b0#1 ++ rn ++ rd ++ imm
  | .strbImmPost cond u rn rd imm => cond ++ 0b0100#4 ++ BitVec.ofBool u ++ 0b100#3 ++ rn ++ rd ++ imm
  | .strbRegPre cond u w rn rd imm st rm => cond ++ 0b0111#4 ++ BitVec.ofBool u ++ 0b1#1 ++ BitVec.ofBool w ++ 0b0#1 ++ rn ++ rd ++ imm ++ st ++ 0b0#1 ++ rm
  | .strbRegPost cond u rn rd imm st rm => cond ++ 0b0110#4 ++ BitVec.ofBool u ++ 0b100#3 ++ rn ++ rd ++ imm ++ st ++ 0b0#1 ++ rm
  | .ldrtImm cond u rn rd imm => cond ++ 0b0100#4 ++ BitVec.ofBool u ++ 0b011#3 ++ rn ++ rd ++ imm
  | .ldrtReg cond u rn rd imm st rm => cond ++ 0b0110#4 ++ BitVec.ofBool u ++ 0b011#3 ++ rn ++ rd ++ imm ++ st ++ 0b0#1 ++ rm
  | .ldrbtImm cond u rn rd imm => cond ++ 0b0100#4 ++ BitVec.ofBool u ++ 0b111#3 ++ rn ++ rd ++ imm
  | .ldrbtReg cond u rn rd imm st rm => cond ++ 0b0110#4 ++ BitVec.ofBool u ++ 0b111#3 ++ rn ++ rd ++ imm ++ st ++ 0b0#1 ++ rm
  | .strtImm cond u rn rd imm => cond ++ 0b0100#4 ++ BitVec.ofBool u ++ 0b010#3 ++ rn ++ rd ++ imm
  | .strtReg cond u rn rd imm st rm => cond ++ 0b0110#4 ++ BitVec.ofBool u ++ 0b010#3 ++ rn ++ rd ++ imm ++ st ++ 0b0#1 ++ rm
  | .strbtImm cond u rn rd imm => cond ++ 0b0100#4 ++ BitVec.ofBool u ++ 0b110#3 ++ rn ++ rd ++ imm
  | .strbtReg cond u rn rd imm st rm => cond ++ 0b0110#4 ++ BitVec.ofBool u ++ 0b110#3 ++ rn ++ rd ++ imm ++ st ++ 0b0#1 ++ rm
  | .strhImm cond p u w rn rd immHi immLo => cond ++ 0b000#3 ++ BitVec.ofBool p ++ BitVec.ofBool u ++ 0b1#1 ++ BitVec.ofBool w ++ 0b0#1 ++ rn ++ rd ++ immHi ++ 0b1011#4 ++ immLo
  | .strhReg cond p u w rn rd sbz rm => cond ++ 0b000#3 ++ BitVec.ofBool p ++ BitVec.ofBool u ++ 0b0#1 ++ BitVec.ofBool w ++ 0b0#1 ++ rn ++ rd ++ sbz ++ 0b1011#4 ++ rm
  | .ldrdImm cond p u w rn rd immHi immLo => cond ++ 0b000#3 ++ BitVec.ofBool p ++ BitVec.ofBool u ++ 0b1#1 ++ BitVec.ofBool w ++ 0b0#1 ++ rn ++ rd ++ immHi ++ 0b1101#4 ++ immLo
  | .ldrdReg cond p u w rn rd sbz rm => cond ++ 0b000#3 ++ BitVec.ofBool p ++ BitVec.ofBool u ++ 0b0#1 ++ BitVec.ofBool w ++ 0b0#1 ++ rn ++ rd ++ sbz ++ 0b1101#4 ++ rm
  | .strdImm cond p u w rn rd immHi immLo => cond ++ 0b000#3 ++ BitVec.ofBool p ++ BitVec.ofBool u ++ 0b1#1 ++ BitVec.ofBool w ++ 0b0#1 ++ rn ++ rd ++ immHi ++ 0b1111#4 ++ immLo
  | .strdReg cond p u w rn rd sbz rm => cond ++ 0b000#3 ++ BitVec.ofBool p ++ BitVec.ofBool u ++ 0b0#1 ++ BitVec.ofBool w ++ 0b0#1 ++ rn ++ rd ++ sbz ++ 0b1111#4 ++ rm
  | .ldrhImm cond p u w rn rd immHi immLo => cond ++ 0b000#3 ++ BitVec.ofBool p ++ BitVec.ofBool u ++ 0b1#1 ++ BitVec.ofBool w ++ 0b1#1 ++ rn ++ rd ++ immHi ++ 0b1011#4 ++ immLo
  | .ldrhReg cond p u w rn rd sbz rm => cond ++ 0b000#3 ++ BitVec.ofBool p ++ BitVec.ofBool u ++ 0b0#1 ++ BitVec.ofBool w ++ 0b1#1 ++ rn ++ rd ++ sbz ++ 0b1011#4 ++ rm
  | .ldrsbImm cond p u w rn rd immHi immLo => cond ++ 0b000#3 ++ BitVec.ofBool p ++ BitVec.ofBool u ++ 0b1#1 ++ BitVec.ofBool w ++ 0b1#1 ++ rn ++ rd ++ immHi ++ 0b1101#4 ++ immLo
  | .ldrsbReg cond p u w rn rd sbz rm => cond ++ 0b000#3 ++ BitVec.ofBool p ++ BitVec.ofBool u ++ 0b0#1 ++ BitVec.ofBool w ++ 0b1#1 ++ rn ++ rd ++ sbz ++ 0b1101#4 ++ rm
  | .ldrshImm cond p u w rn rd immHi immLo => cond ++ 0b000#3 ++ BitVec.ofBool p ++ BitVec.ofBool u ++ 0b1#1 ++ BitVec.ofBool w ++ 0b1#1 ++ rn ++ rd ++ immHi ++ 0b1111#4 ++ immLo
  | .ldrshReg cond p u w rn rd sbz rm => cond ++ 0b000#3 ++ BitVec.ofBool p ++ BitVec.ofBool u ++ 0b0#1 ++ BitVec.ofBool w ++ 0b1#1 ++ rn ++ rd ++ sbz ++ 0b1111#4 ++ rm
  | .ldm1 cond p u w rn list => cond ++ 0b100#3 ++ BitVec.ofBool p ++ BitVec.ofBool u ++ 0b0#1 ++ BitVec.ofBool w ++ 0b1#1 ++ rn ++ list
  | .ldm2 cond p u w rn list => cond ++ 0b100#3 ++ BitVec.ofBool p ++ BitVec.ofBool u ++ 0b1#1 ++ BitVec.ofBool w ++ 0b1#1 ++ rn ++ 0b0#1 ++ list
  | .ldm3 cond p u w rn list => cond ++ 0b100#3 ++ BitVec.ofBool p ++ BitVec.ofBool u ++ 0b1#1 ++ BitVec.ofBool w ++ 0b1#1 ++ rn ++ 0b1#1 ++ list
  | .stm1 cond p u w rn list => cond ++ 0b100#3 ++ BitVec.ofBool p ++ BitVec.ofBool u ++ 0b0#1 ++ BitVec.ofBool w ++ 0b0#1 ++ rn ++ list
  | .stm2 cond p u w rn list => cond ++ 0b100#3 ++ BitVec.ofBool p ++ BitVec.ofBool u ++ 0b1#1 ++ BitVec.ofBool w ++ 0b0#1 ++ rn ++ list
  | .b cond imm => cond ++ 0b1010#4 ++ imm
  | .bl cond imm => cond ++ 0b1011#4 ++ imm
  | .blxImm h imm => 0b1111101#7 ++ BitVec.ofBool h ++ imm
  | .bx cond sbo rm => cond ++ 0b00010010#8 ++ sbo ++ 0b0001#4 ++ rm
  | .bxj cond sbo rm => cond ++ 0b00010010#8 ++ sbo ++ 0b0010#4 ++ rm
  | .blxReg cond sbo rm => cond ++ 0b00010010#8 ++ sbo ++ 0b0011#4 ++ rm
  | .swi cond imm => cond ++ 0b1111#4 ++ imm
  | .bkpt cond immHi immLo => cond ++ 0b00010010#8 ++ immHi ++ 0b0111#4 ++ immLo
  | .ldcPre cond u n w rn crd cp imm => cond ++ 0b1101#4 ++ BitVec.ofBool u ++ BitVec.ofBool n ++ BitVec.ofBool w ++ 0b1#1 ++ rn ++ crd ++ cp ++ imm
  | .ldcPost cond u n rn crd cp imm => cond ++ 0b1100#4 ++ BitVec.ofBool u ++ BitVec.ofBool n ++ 0b11#2 ++ rn ++ crd ++ cp ++ imm
  | .ldcUnindexed cond n rn crd cp opt => cond ++ 0b11001#5 ++ BitVec.ofBool n ++ 0b01#2 ++ rn ++ crd ++ cp ++ opt
  | .stcPre cond u n w rn crd cp imm => cond ++ 0b1101#4 ++ BitVec.ofBool u ++ BitVec.ofBool n ++ BitVec.ofBool w ++ 0b0#1 ++ rn ++ crd ++ cp ++ imm
  | .stcPost cond u n rn crd cp imm => cond ++ 0b1100#4 ++ BitVec.ofBool u ++ BitVec.ofBool n ++ 0b10#2 ++ rn ++ crd ++ cp ++ imm
  | .stcUnindexed cond n rn crd cp opt => cond ++ 0b11001#5 ++ BitVec.ofBool n ++ 0b00#2 ++ rn ++ crd ++ cp ++ opt
  | .mcrr cond rn rd cp opc crm => cond ++ 0b11000100#8 ++ rn ++ rd ++ cp ++ opc ++ crm
  | .mrrc cond rn rd cp opc crm => cond ++ 0b11000101#8 ++ rn ++ rd ++ cp ++ opc ++ crm
  | .cdp cond opc1 crn crd cp opc2 crm => cond ++ 0b1110#4 ++ opc1 ++ crn ++ crd ++ cp ++ opc2 ++ 0b0#1 ++ crm
  | .mcr cond opc1 crn rd cp opc2 crm => cond ++ 0b1110#4 ++ opc1 ++ 0b0#1 ++ crn ++ rd ++ cp ++ opc2 ++ 0b1#1 ++ crm
  | .mrc cond opc1 crn rd cp opc2 crm => cond ++ 0b1110#4 ++ opc1 ++ 0b1#1 ++ crn ++ rd ++ cp ++ opc2 ++ 0b1#1 ++ crm
  | .pldImm u rn sbo imm => 0b11110101#8 ++ BitVec.ofBool u ++ 0b101#3 ++ rn ++ sbo ++ imm
  | .pldReg u rn sbo imm st rm => 0b11110111#8 ++ BitVec.ofBool u ++ 0b101#3 ++ rn ++ sbo ++ imm ++ st ++ 0b0#1 ++ rm
  | .cdp2 opc1 crn crd cp opc2 crm => 0b11111110#8 ++ opc1 ++ crn ++ crd ++ cp ++ opc2 ++ 0b0#1 ++ crm
  | .mcr2 opc1 crn rd cp opc2 crm => 0b11111110#8 ++ opc1 ++ 0b0#1 ++ crn ++ rd ++ cp ++ opc2 ++ 0b1#1 ++ crm
  | .mrc2 opc1 crn rd cp opc2 crm => 0b11111110#8 ++ opc1 ++ 0b1#1 ++ crn ++ rd ++ cp ++ opc2 ++ 0b1#1 ++ crm
  | .ldc2 p u n w rn crd cp imm => 0b1111110#7 ++ BitVec.ofBool p ++ BitVec.ofBool u ++ BitVec.ofBool n ++ BitVec.ofBool w ++ 0b1#1 ++ rn ++ crd ++ cp ++ imm
  | .stc2 p u n w rn crd cp imm => 0b1111110#7 ++ BitVec.ofBool p ++ BitVec.ofBool u ++ BitVec.ofBool n ++ BitVec.ofBool w ++ 0b0#1 ++ rn ++ crd ++ cp ++ imm
  | .nvSkipped body => 0b1111#4 ++ body
  | .undefMulSpace01 cond f1 f2 => cond ++ 0b000001#6 ++ f1 ++ 0b1001#4 ++ f2
  | .undefSwapSpaceA cond f1 f2 f3 => cond ++ 0b00010#5 ++ f1 ++ 0b01#2 ++ f2 ++ 0b1001#4 ++ f3
  | .undefSwapSpaceB cond f1 f2 f3 => cond ++ 0b00010#5 ++ f1 ++ 0b1#1 ++ f2 ++ 0b1001#4 ++ f3
  | .undefSwapSpaceC cond f1 f2 => cond ++ 0b00011#5 ++ f1 ++ 0b1001#4 ++ f2
  | .undefMisc0001 cond f1 f2 f3 => cond ++ 0b00010#5 ++ f1 ++ 0b00#2 ++ f2 ++ 0b0001#4 ++ f3
  | .undefMisc0010A cond f1 f2 f3 => cond ++ 0b00010#5 ++ f1 ++ 0b00#2 ++ f2 ++ 0b0010#4 ++ f3
  | .undefMisc0010B cond f1 f2 => cond ++ 0b00010110#8 ++ f1 ++ 0b0010#4 ++ f2
  | .undefMisc0011A cond f1 f2 f3 => cond ++ 0b00010#5 ++ f1 ++ 0b00#2 ++ f2 ++ 0b0011#4 ++ f3
  | .undefMisc0011B cond f1 f2 => cond ++ 0b00010110#8 ++ f1 ++ 0b0011#4 ++ f2
  | .undefMisc0100 cond f1 f2 f3 => cond ++ 0b00010#5 ++ f1 ++ 0b0#1 ++ f2 ++ 0b0100#4 ++ f3
  | .undefMisc0110 cond f1 f2 f3 => cond ++ 0b00010#5 ++ f1 ++ 0b0#1 ++ f2 ++ 0b0110#4 ++ f3
  | .undefMisc0111A cond f1 f2 f3 => cond ++ 0b00010#5 ++ f1 ++ 0b00#2 ++ f2 ++ 0b0111#4 ++ f3
  | .undefMisc0111B cond f1 f2 => cond ++ 0b00010110#8 ++ f1 ++ 0b0111#4 ++ f2
  | .undefMsrImmSpace cond f1 f2 => cond ++ 0b00110#5 ++ f1 ++ 0b00#2 ++ f2
  | .undefLsRegBit4 cond f1 f2 => cond ++ 0b011#3 ++ f1 ++ 0b1#1 ++ f2
  | .undefCpLsSpace cond body => cond ++ 0b1100000#7 ++ body
  | .tLslImm _ _ _ => 0#32
  | .tLsrImm _ _ _ => 0#32
  | .tAsrImm _ _ _ => 0#32
  | .tAddReg _ _ _ => 0#32
  | .tSubReg _ _ _ => 0#32
  | .tAddImm3 _ _ _ => 0#32
  | .tSubImm3 _ _ _ => 0#32
  | .tMovImm _ _ => 0#32
  | .tCmpImm _ _ => 0#32
  | .tAddImm8 _ _ => 0#32
  | .tSubImm8 _ _ => 0#32
  | .tAnd _ _ => 0#32
  | .tEor _ _ => 0#32
  | .tLslReg _ _ => 0#32
  | .tLsrReg _ _ => 0#32
  | .tAsrReg _ _ => 0#32
  | .tAdc _ _ => 0#32
  | .tSbc _ _ => 0#32
  | .tRor _ _ => 0#32
  | .tTst _ _ => 0#32
  | .tNeg _ _ => 0#32
  | .tCmpReg _ _ => 0#32
  | .tCmn _ _ => 0#32
  | .tOrr _ _ => 0#32
  | .tMul _ _ => 0#32
  | .tBic _ _ => 0#32
  | .tMvn _ _ => 0#32
  | .tAddHi _ _ _ _ => 0#32
  | .tCmpHi _ _ _ _ => 0#32
  | .tMovHi _ _ _ _ => 0#32
  | .tBx _ _ _ => 0#32
  | .tBlxReg _ _ _ => 0#32
  | .tLdrPc _ _ => 0#32
  | .tStrReg _ _ _ => 0#32
  | .tStrhReg _ _ _ => 0#32
  | .tStrbReg _ _ _ => 0#32
  | .tLdrsbReg _ _ _ => 0#32
  | .tLdrReg _ _ _ => 0#32
  | .tLdrhReg _ _ _ => 0#32
  | .tLdrbReg _ _ _ => 0#32
  | .tLdrshReg _ _ _ => 0#32
  | .tStrImm _ _ _ => 0#32
  | .tLdrImm _ _ _ => 0#32
  | .tStrbImm _ _ _ => 0#32
  | .tLdrbImm _ _ _ => 0#32
  | .tStrhImm _ _ _ => 0#32
  | .tLdrhImm _ _ _ => 0#32
  | .tStrSp _ _ => 0#32
  | .tLdrSp _ _ => 0#32
  | .tAddPc _ _ => 0#32
  | .tAddSp _ _ => 0#32
  | .tAddSpImm _ => 0#32
  | .tSubSpImm _ => 0#32
  | .tPush _ _ => 0#32
  | .tPop _ _ => 0#32
  | .tBkpt _ => 0#32
  | .tStmia _ _ => 0#32
  | .tLdmia _ _ => 0#32
  | .tBCond _ _ => 0#32
  | .tSwi _ => 0#32
  | .tB _ => 0#32
  | .tBlxSuffix _ => 0#32
  | .tBlPrefix _ => 0#32
  | .tBlSuffix _ => 0#32
  | .tUndefB1 _ => 0#32
  | .tUndefB2B3 _ => 0#32
  | .tUndefB6B7 _ => 0#32
  | .tUndefB8Bb _ => 0#32
  | .tUndefBf _ => 0#32
  | .tUndefCondE _ => 0#32
  | .tUndefBlxOdd _ => 0#32

/-- The halfword of a Thumb instruction (R330 and the table's encodings); 0 for an ARM instruction. -/
def encodeThumb : Instr → Half
  | .tLslImm imm rm rd => 0b00000#5 ++ imm ++ rm ++ rd
  | .tLsrImm imm rm rd => 0b00001#5 ++ imm ++ rm ++ rd
  | .tAsrImm imm rm rd => 0b00010#5 ++ imm ++ rm ++ rd
  | .tAddReg rm rn rd => 0b0001100#7 ++ rm ++ rn ++ rd
  | .tSubReg rm rn rd => 0b0001101#7 ++ rm ++ rn ++ rd
  | .tAddImm3 imm rn rd => 0b0001110#7 ++ imm ++ rn ++ rd
  | .tSubImm3 imm rn rd => 0b0001111#7 ++ imm ++ rn ++ rd
  | .tMovImm rd imm => 0b00100#5 ++ rd ++ imm
  | .tCmpImm rd imm => 0b00101#5 ++ rd ++ imm
  | .tAddImm8 rd imm => 0b00110#5 ++ rd ++ imm
  | .tSubImm8 rd imm => 0b00111#5 ++ rd ++ imm
  | .tAnd rm rd => 0b0100000000#10 ++ rm ++ rd
  | .tEor rm rd => 0b0100000001#10 ++ rm ++ rd
  | .tLslReg rm rd => 0b0100000010#10 ++ rm ++ rd
  | .tLsrReg rm rd => 0b0100000011#10 ++ rm ++ rd
  | .tAsrReg rm rd => 0b0100000100#10 ++ rm ++ rd
  | .tAdc rm rd => 0b0100000101#10 ++ rm ++ rd
  | .tSbc rm rd => 0b0100000110#10 ++ rm ++ rd
  | .tRor rm rd => 0b0100000111#10 ++ rm ++ rd
  | .tTst rm rd => 0b0100001000#10 ++ rm ++ rd
  | .tNeg rm rd => 0b0100001001#10 ++ rm ++ rd
  | .tCmpReg rm rd => 0b0100001010#10 ++ rm ++ rd
  | .tCmn rm rd => 0b0100001011#10 ++ rm ++ rd
  | .tOrr rm rd => 0b0100001100#10 ++ rm ++ rd
  | .tMul rm rd => 0b0100001101#10 ++ rm ++ rd
  | .tBic rm rd => 0b0100001110#10 ++ rm ++ rd
  | .tMvn rm rd => 0b0100001111#10 ++ rm ++ rd
  | .tAddHi h1 h2 rm rd => 0b01000100#8 ++ BitVec.ofBool h1 ++ BitVec.ofBool h2 ++ rm ++ rd
  | .tCmpHi h1 h2 rm rd => 0b01000101#8 ++ BitVec.ofBool h1 ++ BitVec.ofBool h2 ++ rm ++ rd
  | .tMovHi h1 h2 rm rd => 0b01000110#8 ++ BitVec.ofBool h1 ++ BitVec.ofBool h2 ++ rm ++ rd
  | .tBx h2 rm sbz => 0b010001110#9 ++ BitVec.ofBool h2 ++ rm ++ sbz
  | .tBlxReg h2 rm sbz => 0b010001111#9 ++ BitVec.ofBool h2 ++ rm ++ sbz
  | .tLdrPc rd imm => 0b01001#5 ++ rd ++ imm
  | .tStrReg rm rn rd => 0b0101000#7 ++ rm ++ rn ++ rd
  | .tStrhReg rm rn rd => 0b0101001#7 ++ rm ++ rn ++ rd
  | .tStrbReg rm rn rd => 0b0101010#7 ++ rm ++ rn ++ rd
  | .tLdrsbReg rm rn rd => 0b0101011#7 ++ rm ++ rn ++ rd
  | .tLdrReg rm rn rd => 0b0101100#7 ++ rm ++ rn ++ rd
  | .tLdrhReg rm rn rd => 0b0101101#7 ++ rm ++ rn ++ rd
  | .tLdrbReg rm rn rd => 0b0101110#7 ++ rm ++ rn ++ rd
  | .tLdrshReg rm rn rd => 0b0101111#7 ++ rm ++ rn ++ rd
  | .tStrImm imm rn rd => 0b01100#5 ++ imm ++ rn ++ rd
  | .tLdrImm imm rn rd => 0b01101#5 ++ imm ++ rn ++ rd
  | .tStrbImm imm rn rd => 0b01110#5 ++ imm ++ rn ++ rd
  | .tLdrbImm imm rn rd => 0b01111#5 ++ imm ++ rn ++ rd
  | .tStrhImm imm rn rd => 0b10000#5 ++ imm ++ rn ++ rd
  | .tLdrhImm imm rn rd => 0b10001#5 ++ imm ++ rn ++ rd
  | .tStrSp rd imm => 0b10010#5 ++ rd ++ imm
  | .tLdrSp rd imm => 0b10011#5 ++ rd ++ imm
  | .tAddPc rd imm => 0b10100#5 ++ rd ++ imm
  | .tAddSp rd imm => 0b10101#5 ++ rd ++ imm
  | .tAddSpImm imm => 0b101100000#9 ++ imm
  | .tSubSpImm imm => 0b101100001#9 ++ imm
  | .tPush r list => 0b1011010#7 ++ BitVec.ofBool r ++ list
  | .tPop r list => 0b1011110#7 ++ BitVec.ofBool r ++ list
  | .tBkpt imm => 0b10111110#8 ++ imm
  | .tStmia rn list => 0b11000#5 ++ rn ++ list
  | .tLdmia rn list => 0b11001#5 ++ rn ++ list
  | .tBCond cond imm => 0b1101#4 ++ cond ++ imm
  | .tSwi imm => 0b11011111#8 ++ imm
  | .tB imm => 0b11100#5 ++ imm
  | .tBlxSuffix imm => 0b11101#5 ++ imm ++ 0b0#1
  | .tBlPrefix imm => 0b11110#5 ++ imm
  | .tBlSuffix imm => 0b11111#5 ++ imm
  | .tUndefB1 body => 0b10110001#8 ++ body
  | .tUndefB2B3 body => 0b1011001#7 ++ body
  | .tUndefB6B7 body => 0b1011011#7 ++ body
  | .tUndefB8Bb body => 0b101110#6 ++ body
  | .tUndefBf body => 0b10111111#8 ++ body
  | .tUndefCondE body => 0b11011110#8 ++ body
  | .tUndefBlxOdd body => 0b11101#5 ++ body ++ 0b1#1
  | .andImmShift _ _ _ _ _ _ _ => 0#16
  | .andRegShift _ _ _ _ _ _ _ => 0#16
  | .andImm _ _ _ _ _ _ => 0#16
  | .eorImmShift _ _ _ _ _ _ _ => 0#16
  | .eorRegShift _ _ _ _ _ _ _ => 0#16
  | .eorImm _ _ _ _ _ _ => 0#16
  | .subImmShift _ _ _ _ _ _ _ => 0#16
  | .subRegShift _ _ _ _ _ _ _ => 0#16
  | .subImm _ _ _ _ _ _ => 0#16
  | .rsbImmShift _ _ _ _ _ _ _ => 0#16
  | .rsbRegShift _ _ _ _ _ _ _ => 0#16
  | .rsbImm _ _ _ _ _ _ => 0#16
  | .addImmShift _ _ _ _ _ _ _ => 0#16
  | .addRegShift _ _ _ _ _ _ _ => 0#16
  | .addImm _ _ _ _ _ _ => 0#16
  | .adcImmShift _ _ _ _ _ _ _ => 0#16
  | .adcRegShift _ _ _ _ _ _ _ => 0#16
  | .adcImm _ _ _ _ _ _ => 0#16
  | .sbcImmShift _ _ _ _ _ _ _ => 0#16
  | .sbcRegShift _ _ _ _ _ _ _ => 0#16
  | .sbcImm _ _ _ _ _ _ => 0#16
  | .rscImmShift _ _ _ _ _ _ _ => 0#16
  | .rscRegShift _ _ _ _ _ _ _ => 0#16
  | .rscImm _ _ _ _ _ _ => 0#16
  | .tstImmShift _ _ _ _ _ _ => 0#16
  | .tstRegShift _ _ _ _ _ _ => 0#16
  | .tstImm _ _ _ _ _ => 0#16
  | .teqImmShift _ _ _ _ _ _ => 0#16
  | .teqRegShift _ _ _ _ _ _ => 0#16
  | .teqImm _ _ _ _ _ => 0#16
  | .cmpImmShift _ _ _ _ _ _ => 0#16
  | .cmpRegShift _ _ _ _ _ _ => 0#16
  | .cmpImm _ _ _ _ _ => 0#16
  | .cmnImmShift _ _ _ _ _ _ => 0#16
  | .cmnRegShift _ _ _ _ _ _ => 0#16
  | .cmnImm _ _ _ _ _ => 0#16
  | .orrImmShift _ _ _ _ _ _ _ => 0#16
  | .orrRegShift _ _ _ _ _ _ _ => 0#16
  | .orrImm _ _ _ _ _ _ => 0#16
  | .movImmShift _ _ _ _ _ _ _ => 0#16
  | .movRegShift _ _ _ _ _ _ _ => 0#16
  | .movImm _ _ _ _ _ _ => 0#16
  | .bicImmShift _ _ _ _ _ _ _ => 0#16
  | .bicRegShift _ _ _ _ _ _ _ => 0#16
  | .bicImm _ _ _ _ _ _ => 0#16
  | .mvnImmShift _ _ _ _ _ _ _ => 0#16
  | .mvnRegShift _ _ _ _ _ _ _ => 0#16
  | .mvnImm _ _ _ _ _ _ => 0#16
  | .mrs _ _ _ _ _ _ => 0#16
  | .msrReg _ _ _ _ _ _ => 0#16
  | .msrImm _ _ _ _ _ _ => 0#16
  | .clz _ _ _ _ _ => 0#16
  | .qadd _ _ _ _ _ => 0#16
  | .qsub _ _ _ _ _ => 0#16
  | .qdadd _ _ _ _ _ => 0#16
  | .qdsub _ _ _ _ _ => 0#16
  | .mul _ _ _ _ _ _ => 0#16
  | .mla _ _ _ _ _ _ => 0#16
  | .umull _ _ _ _ _ _ => 0#16
  | .umlal _ _ _ _ _ _ => 0#16
  | .smull _ _ _ _ _ _ => 0#16
  | .smlal _ _ _ _ _ _ => 0#16
  | .smlaXY _ _ _ _ _ _ _ => 0#16
  | .smlawY _ _ _ _ _ _ => 0#16
  | .smulwY _ _ _ _ _ _ => 0#16
  | .smlalXY _ _ _ _ _ _ _ => 0#16
  | .smulXY _ _ _ _ _ _ _ => 0#16
  | .swp _ _ _ _ _ => 0#16
  | .swpb _ _ _ _ _ => 0#16
  | .ldrImmPre _ _ _ _ _ _ => 0#16
  | .ldrImmPost _ _ _ _ _ => 0#16
  | .ldrRegPre _ _ _ _ _ _ _ _ => 0#16
  | .ldrRegPost _ _ _ _ _ _ _ => 0#16
  | .ldrbImmPre _ _ _ _ _ _ => 0#16
  | .ldrbImmPost _ _ _ _ _ => 0#16
  | .ldrbRegPre _ _ _ _ _ _ _ _ => 0#16
  | .ldrbRegPost _ _ _ _ _ _ _ => 0#16
  | .strImmPre _ _ _ _ _ _ => 0#16
  | .strImmPost _ _ _ _ _ => 0#16
  | .strRegPre _ _ _ _ _ _ _ _ => 0#16
  | .strRegPost _ _ _ _ _ _ _ => 0#16
  | .strbImmPre _ _ _ _ _ _ => 0#16
  | .strbImmPost _ _ _ _ _ => 0#16
  | .strbRegPre _ _ _ _ _ _ _ _ => 0#16
  | .strbRegPost _ _ _ _ _ _ _ => 0#16
  | .ldrtImm _ _ _ _ _ => 0#16
  | .ldrtReg _ _ _ _ _ _ _ => 0#16
  | .ldrbtImm _ _ _ _ _ => 0#16
  | .ldrbtReg _ _ _ _ _ _ _ => 0#16
  | .strtImm _ _ _ _ _ => 0#16
  | .strtReg _ _ _ _ _ _ _ => 0#16
  | .strbtImm _ _ _ _ _ => 0#16
  | .strbtReg _ _ _ _ _ _ _ => 0#16
  | .strhImm _ _ _ _ _ _ _ _ => 0#16
  | .strhReg _ _ _ _ _ _ _ _ => 0#16
  | .ldrdImm _ _ _ _ _ _ _ _ => 0#16
  | .ldrdReg _ _ _ _ _ _ _ _ => 0#16
  | .strdImm _ _ _ _ _ _ _ _ => 0#16
  | .strdReg _ _ _ _ _ _ _ _ => 0#16
  | .ldrhImm _ _ _ _ _ _ _ _ => 0#16
  | .ldrhReg _ _ _ _ _ _ _ _ => 0#16
  | .ldrsbImm _ _ _ _ _ _ _ _ => 0#16
  | .ldrsbReg _ _ _ _ _ _ _ _ => 0#16
  | .ldrshImm _ _ _ _ _ _ _ _ => 0#16
  | .ldrshReg _ _ _ _ _ _ _ _ => 0#16
  | .ldm1 _ _ _ _ _ _ => 0#16
  | .ldm2 _ _ _ _ _ _ => 0#16
  | .ldm3 _ _ _ _ _ _ => 0#16
  | .stm1 _ _ _ _ _ _ => 0#16
  | .stm2 _ _ _ _ _ _ => 0#16
  | .b _ _ => 0#16
  | .bl _ _ => 0#16
  | .blxImm _ _ => 0#16
  | .bx _ _ _ => 0#16
  | .bxj _ _ _ => 0#16
  | .blxReg _ _ _ => 0#16
  | .swi _ _ => 0#16
  | .bkpt _ _ _ => 0#16
  | .ldcPre _ _ _ _ _ _ _ _ => 0#16
  | .ldcPost _ _ _ _ _ _ _ => 0#16
  | .ldcUnindexed _ _ _ _ _ _ => 0#16
  | .stcPre _ _ _ _ _ _ _ _ => 0#16
  | .stcPost _ _ _ _ _ _ _ => 0#16
  | .stcUnindexed _ _ _ _ _ _ => 0#16
  | .mcrr _ _ _ _ _ _ => 0#16
  | .mrrc _ _ _ _ _ _ => 0#16
  | .cdp _ _ _ _ _ _ _ => 0#16
  | .mcr _ _ _ _ _ _ _ => 0#16
  | .mrc _ _ _ _ _ _ _ => 0#16
  | .pldImm _ _ _ _ => 0#16
  | .pldReg _ _ _ _ _ _ => 0#16
  | .cdp2 _ _ _ _ _ _ => 0#16
  | .mcr2 _ _ _ _ _ _ => 0#16
  | .mrc2 _ _ _ _ _ _ => 0#16
  | .ldc2 _ _ _ _ _ _ _ _ => 0#16
  | .stc2 _ _ _ _ _ _ _ _ => 0#16
  | .nvSkipped _ => 0#16
  | .undefMulSpace01 _ _ _ => 0#16
  | .undefSwapSpaceA _ _ _ _ => 0#16
  | .undefSwapSpaceB _ _ _ _ => 0#16
  | .undefSwapSpaceC _ _ _ => 0#16
  | .undefMisc0001 _ _ _ _ => 0#16
  | .undefMisc0010A _ _ _ _ => 0#16
  | .undefMisc0010B _ _ _ => 0#16
  | .undefMisc0011A _ _ _ _ => 0#16
  | .undefMisc0011B _ _ _ => 0#16
  | .undefMisc0100 _ _ _ _ => 0#16
  | .undefMisc0110 _ _ _ _ => 0#16
  | .undefMisc0111A _ _ _ _ => 0#16
  | .undefMisc0111B _ _ _ => 0#16
  | .undefMsrImmSpace _ _ _ => 0#16
  | .undefLsRegBit4 _ _ _ => 0#16
  | .undefCpLsSpace _ _ => 0#16

/-- The words of an instruction: one word, of 16 bits for Thumb and 32 for ARM (R300). -/
def encode (i : Instr) : List Byte :=
  if i.isThumb then littleEndianBytes 2 (encodeThumb i).toNat else littleEndianBytes 4 (encodeArm i).toNat

end Sys2Proof
end

