-- ==== Sys2Proof/Config.lean ====
section
/-! DEFINITION. The configuration: the parameter types of spec/00_scope.md R10 and spec/92_eei_decisions.md, and the
FREE VALUES the spec leaves open, each an opaque constant with no body, so that no proof can see what it is.
The parameters that are data are grouped in `Params`, which `State` holds (notes/assumptions/3.md); those that are
functions, and the values a rule draws, are the constants of `Config`. -/

namespace Sys2Proof

/-- `STORE_PC_OFFSET` (D45): what STR and STM store for R15 is the instruction's address plus 8 or 12. -/
inductive StorePc where
  | eight
  | twelve
  deriving DecidableEq, Repr

/-- One window of `BUS_ABORT(addr, width, isWrite)` (D15): accesses at `base .. base + size - 1` of the
listed widths and directions abort. -/
structure AbortWindow where
  base : Word
  size : Nat
  bytes : Bool
  halves : Bool
  words : Bool
  reads : Bool
  writes : Bool
  deriving DecidableEq, Repr

/-- What answers an address range (R201): a buffer of main memory or of a code region, read at
`a AND mask` (R202), or a peripheral (R204). -/
inductive RegionKind where
  | flat (mask : Word) (buffer : Nat)
  | device
  deriving DecidableEq, Repr

/-- One range of `PLATFORM` (R201, D31): addresses `base .. base + size - 1`. -/
structure Region where
  base : Word
  size : Nat
  kind : RegionKind
  deriving DecidableEq, Repr

/-- `INTC_CTL_ENCODING` (D39): the bit positions of enable, disable and the low bit of the 4-bit priority
in a control byte. -/
structure CtlEncoding where
  enableBit : Fin 8
  disableBit : Fin 8
  prioLow : Fin 5
  deriving DecidableEq, Repr, Inhabited

/-- The meaning of one register of `INTC_MAP` (R1206): each access is one of the operations R1201, R1204,
R1205 or a read of the controller's state (R135). -/
inductive IntcPort where
  | readPendingLow
  | readPendingHigh
  | readLatched
  | readThreshold
  | readCtl (line : Fin 40)
  | setIrq
  | acknowledge
  | writeCtl (line : Fin 40)
  deriving DecidableEq, Repr

/-- One register of `INTC_MAP` (D39). -/
structure IntcRegister where
  address : Word
  port : IntcPort
  deriving DecidableEq, Repr

/-- The parameters of R10 that are data. No operation of the model changes them. -/
structure Params where
  /-- `RESET_PC` (D9). -/
  resetPc : Word
  /-- `RESET_SPSR` (D7). -/
  resetSpsr : Word
  /-- `CTRL_RESET` (D10). -/
  ctrlReset : Word
  /-- `CTRL_WMASK` (D10). -/
  ctrlWmask : Word
  /-- `CP15_MAINID` (D19). -/
  mainId : Word
  /-- `CP15_CACHETYPE` (D19). -/
  cacheType : Word
  /-- `IRQ_ENTRY_MASKS_F` (D13). -/
  irqEntryMasksF : Bool
  /-- `MAX_BURST` (D35). -/
  maxBurst : Nat
  /-- `BURST_MARGIN` (D35). -/
  burstMargin : Nat
  /-- `EVENT_IDS` (D38). -/
  eventIds : List Nat
  /-- `INTC_CTL_ENCODING` (D39). -/
  ctlEncoding : CtlEncoding
  /-- `INTC_MAP` (D39). -/
  intcMap : List IntcRegister
  /-- `INTC_THRESHOLD_RESET` (D40), 0..16. -/
  thresholdReset : Fin 17
  /-- `PLATFORM` (D31). -/
  regions : List Region
  /-- `BUS_ABORT` (D15). -/
  abortWindows : List AbortWindow
  /-- `STORE_PC_OFFSET` (D45). -/
  storePc : StorePc
  /-- `FRAME_CYCLES` (D50). -/
  frameCycles : Nat
  deriving DecidableEq, Repr

/-! ### What collaborators do (R1250) -/

namespace Machine

/-- The kind of a schedule (R1210). -/
inductive EventKind where
  | relative
  | periodic
  | absolute
  deriving DecidableEq, Repr

/-- What a collaborator may call (R1250): H-IRQ, H-ACK, H-CTL, H-SCHED, H-CANCEL, H-HALT1. -/
inductive Call where
  | irq (line : Nat)
  | ack (threshold : Nat)
  | ctl (line : Nat) (byte : Byte)
  | sched (id : Nat) (kind : EventKind) (delay : Nat) (cb : Nat) (param : Word)
  | cancel (id : Nat)
  | halt1
  deriving DecidableEq, Repr

/-- The width of an access (R12): 1, 2 or 4 bytes. -/
inductive Width where
  | byte
  | half
  | word
  deriving DecidableEq, Repr

/-- One action of a scheduler callback (R1216): a call, or an access to memory through the bus. -/
inductive CallbackAction where
  | call (c : Call)
  | read (address : Word) (width : Width)
  | write (address : Word) (width : Width) (value : Word)
  deriving DecidableEq, Repr

end Machine

/-- What a collaborator did in a frame: the argument of `LAG_FRAME` (R1220, D50). The spec leaves open what of the
frame's collaborator activity the predicate may read. DESIGN CHOICE (notes/assumptions/12.md): it may read all that the
model sees of it, in order: each bus operation a peripheral took with its calls, each callback that ran with its
actions, each advance of the timers with its delta and its calls. -/
inductive Activity where
  /-- A peripheral answered a read: address, bytes, value, and what it called. -/
  | deviceRead (address : Word) (bytes : Nat) (value : Word) (calls : List Machine.Call)
  /-- A peripheral took a write: address, bytes, value, and what it called. -/
  | deviceWrite (address : Word) (bytes : Nat) (value : Word) (calls : List Machine.Call)
  /-- A scheduler callback ran: its reference, its parameter, and its actions. -/
  | callback (ref : Option Nat) (param : Word) (actions : List Machine.CallbackAction)
  /-- The timers advanced: by how much, and what they called. -/
  | timers (delta : Nat) (calls : List Machine.Call)
  deriving DecidableEq, Repr

/-- The entry is no peripheral activity (R1221): the timers advanced and called nothing. That every other entry counts
as peripheral activity is the model's reading (DESIGN CHOICE, notes/assumptions/12.md). -/
def Activity.idle : Activity → Bool
  | .deviceRead _ _ _ _ => false
  | .deviceWrite _ _ _ _ => false
  | .callback _ _ _ => false
  | .timers _ calls => calls.isEmpty

namespace Config

/-- `BURST_MARGIN` (D35): no default in the spec. -/
opaque burstMargin : Nat
/-- `FRAME_CYCLES` (D50): no default in the spec. -/
opaque frameCycles : Nat
/-- `INTC_THRESHOLD_RESET` (D40): 0..16, no default in the spec. -/
opaque thresholdReset : Fin 17
/-- The ids behind `EVENT_IDS` (D38), in no order. -/
opaque eventIdsRaw : List Nat
/-- `INTC_CTL_ENCODING` (D39): no default in the spec. -/
opaque ctlEncoding : CtlEncoding
/-- `INTC_MAP` (D39): no default in the spec. -/
opaque intcMap : List IntcRegister
/-- `CP15_MAINID` (D19): no default in the spec. -/
opaque mainId : Word
/-- `CP15_CACHETYPE` (D19): no default in the spec. -/
opaque cacheType : Word
/-- `CODE_COST` before its constraint (D27): address, bytes, sequential. -/
opaque codeCostRaw : Word → Nat → Bool → Nat
/-- `DATA_COST` (D61): address, bytes, sequential. -/
opaque dataCost : Word → Nat → Bool → Nat
/-- `MISS_SEQ` (D25), by line address. -/
opaque missSeq : Word → Nat
/-- `MISS_PENALTY` (D25), by line address. -/
opaque missPenalty : Word → Nat
/-- `EXEC_CYCLES` before its constraint (D32): instruction bits, Thumb state, code cost, data costs. -/
opaque execCyclesRaw : Word → Bool → Nat → List Nat → Nat
/-- `RNG_SEED` (D23). -/
opaque rngSeed : Nat
/-- `VICTIM_RNG.step` (D23): the way and the next generator state. -/
opaque victimStep : Nat → BitVec 2 × Nat
/-- The draw of R14_svc at a soft reset (R1112, D44), by draw number. -/
opaque softResetLink : Nat → Word
/-- The draw of R234 (D49), by draw number: whether the fetch of A + 6 sees the old halfword. -/
opaque thumbFetchOld : Nat → Bool
/-- A peripheral's answer where no script gives it (R1250), by draw number, address and bytes. -/
opaque deviceRead : Nat → Word → Nat → Word
/-- `LAG_FRAME` before its constraint (D50). -/
opaque lagFrameRaw : List Activity → Bool
/-- What a read of the latch register gives when no line is latched (R135: "a sentinel 'none'"). -/
opaque latchSentinel : Word

/-- Insert an id into an ordered list without repeats. -/
def insertId (i : Nat) : List Nat → List Nat
  | [] => [i]
  | j :: r => if i < j then i :: j :: r else if i = j then j :: r else j :: insertId i r

/-- `EVENT_IDS` (D38): an ordered set of at most 32 ids. -/
def eventIds : List Nat := (eventIdsRaw.foldr insertId []).take 32

/-- `CODE_COST` (D27), at least 1. -/
def codeCost (a : Word) (bytes : Nat) (sequential : Bool) : Nat := max 1 (codeCostRaw a bytes sequential)

/-- `MissCost(b) = MISS_SEQ(b) + 7 × MISS_PENALTY(b)` (R245), at least 1 (D25). -/
def missCost (b : Word) : Nat := max 1 (missSeq b + 7 * missPenalty b)

/-- `EXEC_CYCLES(instr, codeCost, dataCosts)` (R425, D32), at least 1. -/
def execCycles (instr : Word) (thumb : Bool) (code : Nat) (costs : List Nat) : Nat :=
  max 1 (execCyclesRaw instr thumb code costs)

/-- `LAG_FRAME` (R1220): holds of every frame with no peripheral activity (R1221, D50). -/
def lagFrame (activity : List Activity) : Bool := activity.all Activity.idle || lagFrameRaw activity

/-- The parameters at `State.reset`: the spec's defaults where R10 gives one, an opaque constant where
it gives none, and one flat region over the whole address space (notes/assumptions/2.md). -/
def params : Params where
  resetPc := 0#32
  resetSpsr := 0x00000010#32
  ctrlReset := 0x00050078#32
  ctrlWmask := 0x0000F387#32
  mainId := mainId
  cacheType := cacheType
  irqEntryMasksF := false
  maxBurst := 64
  burstMargin := burstMargin
  eventIds := eventIds
  ctlEncoding := ctlEncoding
  intcMap := intcMap
  thresholdReset := thresholdReset
  regions := [{ base := 0#32, size := 2 ^ 32, kind := .flat 0xFFFFFFFF#32 0 }]
  abortWindows := []
  storePc := .twelve
  frameCycles := frameCycles

end Config

end Sys2Proof
end

