-- ==== Sys2Proof/Machine/State.lean ====
section
/-! DEFINITION. The state of the machine as plain data (spec/10_state.md), the reasons a step can stop, and the state
after reset (R160). What the fields marked "model's own" are for is said at each; notes/assumptions/29.md lists them. -/

namespace Sys2Proof.Machine

/-- Why the machine stops: `fault Unpredictable(reason)` (R12, D47), one constructor per case of
spec/93_implementation_defined.md section 1. Every one is SAFE: the model stops where the architecture gives no
behaviour, so no claim is made past it. -/
inductive Fault where
  /-- A should-be-zero or should-be-one field with another value (R342). Raised by every meaning whose row has one. Safe. -/
  | shouldBe
  /-- CPSR.M would be none of the seven modes (R112, D60). Raised by MSR and by a status restore. Safe. -/
  | badMode
  /-- A data-processing write of PC in ARM state with bits 1:0 not 00 (R406). Safe. -/
  | unalignedArmPc
  /-- An interworking PC write with bits 1:0 = 10 (R407, R408). Raised by BX, BLX, BXJ, LDR, LDM and POP to PC. Safe. -/
  | interworkBits
  /-- An exception return to ARM state with bits 1:0 not 00 (R408, R410). Raised by S = 1 writes of PC and LDM(3). Safe. -/
  | unalignedArmReturn
  /-- R15 in a register-shift data-processing form (R511). Safe. -/
  | r15RegisterShift
  /-- MRS with Rd = 15 (R540). Safe. -/
  | mrsToPc
  /-- MSR from R15 (R542). Safe. -/
  | msrFromPc
  /-- MRS or MSR of the SPSR in USR or SYS (R540, R541, D58). Safe. -/
  | spsrNoMode
  /-- MSR that changes CPSR.T (R541, D48). Safe. -/
  | msrChangesT
  /-- CLZ with R15 (R545). Safe. -/
  | clzR15
  /-- QADD, QSUB, QDADD or QDSUB with R15 (R550-R553). Safe. -/
  | saturateR15
  /-- R15 in a multiply (R600). Safe. -/
  | multiplyR15
  /-- MUL or MLA with Rd = Rm, ARM or Thumb (R601, R602, R925). Safe. -/
  | multiplyRdRm
  /-- A long multiply with RdHi = RdLo (R603, R613). Safe. -/
  | longSamePair
  /-- A long multiply with RdHi or RdLo = Rm (R603). Safe. -/
  | longPairRm
  /-- Addressing mode 2 with a register offset of R15 (R651). Safe. -/
  | mode2OffsetPc
  /-- Base writeback to R15 (R651, R665). Safe. -/
  | writebackBasePc
  /-- Base writeback with Rn = Rd (R651, R665). Safe. -/
  | writebackBaseDest
  /-- Addressing mode 2 with writeback and Rn = Rm (R651). Safe. -/
  | writebackBaseOffset
  /-- LDR to PC from an address with bits 1:0 not 00 (R652). Safe. -/
  | misalignedLoadPc
  /-- LDRB or LDRBT with Rd = 15 (R653, R657). Safe. -/
  | loadBytePc
  /-- LDRT with Rd = 15 (R656). Safe. -/
  | loadTranslatedPc
  /-- STRB or STRBT of PC (R655, R659). Safe. -/
  | storeBytePc
  /-- Addressing mode 3 with P = 0 and W = 1 (R665). Safe. -/
  | mode3PostWriteback
  /-- Addressing mode 3 with a register offset of R15 (R665). Safe. -/
  | mode3OffsetPc
  /-- LDRH, LDRSB or LDRSH with Rd = 15 (R666-R668). Safe. -/
  | loadHalfPc
  /-- STRH of PC (R669). Safe. -/
  | storeHalfPc
  /-- A halfword access at an odd address (R208, R666, R972). Safe. -/
  | misalignedHalf
  /-- LDRD or STRD with an odd Rd or Rd = 14 (R670, R671). Safe. -/
  | doublePair
  /-- LDRD with writeback and the base in the pair (R670). Safe. -/
  | doubleWritebackOverlap
  /-- LDRD with the offset register in the pair (R670). Safe. -/
  | doubleOffsetOverlap
  /-- A doubleword address not a multiple of 8 (R670, R671). Safe. -/
  | misalignedDouble
  /-- A multiple transfer with an empty register list (R680, R987-R990). Safe. -/
  | emptyList
  /-- LDM or STM with base R15 (R680). Safe. -/
  | multipleBasePc
  /-- LDM with writeback and the base in the list (R681, R683). Safe. -/
  | loadListHasBase
  /-- STM with writeback and the base in the list but not lowest (R684, R989). Safe. -/
  | storeBaseNotLowest
  /-- LDM(2) or STM(2) with writeback (R682, R685). Safe. -/
  | userBankWriteback
  /-- LDM(2) or STM(2) in USR or SYS (R682, R685). Safe. -/
  | userBankMode
  /-- SWP or SWPB with R15 (R700). Safe. -/
  | swapR15
  /-- SWP or SWPB with Rn = Rm or Rn = Rd (R700). Safe. -/
  | swapBase
  /-- BLX(2), ARM or Thumb, with Rm = 15 (R754, R934). Safe. -/
  | blxPc
  /-- BXJ with Rm = 15 (R755). Safe. -/
  | bxjPc
  /-- BKPT with a condition other than 1110 that passes (R757). Safe. -/
  | conditionalBkpt
  /-- MCR with Rd = 15 (R804, D56). Safe. -/
  | mcrFromPc
  /-- A Thumb hi-register operation on two low registers (R930-R932). Safe. -/
  | hiOpOnLow
  deriving DecidableEq, Repr

/-- Why the model gives no meaning. Nothing raises it: every instruction of the table has its meaning. -/
inductive Refusal where
  /-- An instruction not modelled yet, by its mnemonic; raised by an arm of `exec` only. Safe. -/
  | notModelled (mnemonic : String)
  deriving DecidableEq, Repr

/-- The halt level (R130). -/
inductive HaltLevel where
  | none
  | indefinite
  | singleShot
  deriving DecidableEq, Repr

/-- One line of the instruction cache (R127). -/
structure CacheLine where
  data : Vector Byte 32
  tag : BitVec 21
  valid : Bool
  deriving DecidableEq, Repr

/-- One set of the instruction cache: four ways and the round-robin counter (R127). -/
structure CacheSet where
  lines : Vector CacheLine 4
  rr : BitVec 2
  deriving DecidableEq, Repr

/-- The interrupt controller (R135). A control byte is held as written; its fields are read at the
positions of `INTC_CTL_ENCODING`. -/
structure Intc where
  ctl : Vector Byte 40
  pending : BitVec 64
  latched : Option (Fin 40)
  threshold : Nat
  deriving DecidableEq, Repr

/-- The slot of one event id (R140). A callback is a reference; what it does is collaborator input. -/
structure EventSlot where
  id : Nat
  pending : Bool
  time : Nat
  cb : Option Nat
  param : Word
  deriving DecidableEq, Repr

/-- The event scheduler (R140): one slot per id of `EVENT_IDS`, ascending; the system time marker; and,
inside a `RunSystem` pass, the ids scheduled in it (R1210, R1213). -/
structure Sched where
  slots : List EventSlot
  sysTime : Nat
  scheduledInPass : Option (List Nat)
  deriving DecidableEq, Repr

/-- A peripheral's answer to one bus operation (R1250): the value a read returns, and its calls. -/
structure Answer where
  value : Word
  calls : List Call
  deriving DecidableEq, Repr

/-- What the collaborators will do, in order (model's own, notes/assumptions/15.md): a peripheral's answers, the
calls of each timer advance, the actions of each callback invocation. Where a list has run out, a
read gives a free value and nothing is called. -/
structure Inputs where
  answers : List Answer
  timers : List (List Call)
  callbacks : List (List CallbackAction)
  deriving DecidableEq, Repr

/-- Memory: bytes by storage key, addresses strictly rising, no entry 0 (the value of an unlisted byte). -/
abbrev Memory := List Host.Cell

/-- The whole state (R100). -/
structure State where
  /-- The live register file, R15 the program counter (R101). -/
  regs : Vector Word 16
  /-- `bank_fiq[8..14]` (R102). -/
  bankFiq : Vector Word 7
  /-- `bank_svc[13..14]` (R102). -/
  bankSvc : Vector Word 2
  /-- `bank_abt[13..14]` (R102). -/
  bankAbt : Vector Word 2
  /-- `bank_irq[13..14]` (R102). -/
  bankIrq : Vector Word 2
  /-- `bank_und[13..14]` (R102). -/
  bankUnd : Vector Word 2
  /-- Saved status of FIQ (R114). -/
  spsrFiq : Word
  /-- Saved status of SVC (R114). -/
  spsrSvc : Word
  /-- Saved status of ABT (R114). -/
  spsrAbt : Word
  /-- Saved status of IRQ (R114). -/
  spsrIrq : Word
  /-- Saved status of UND (R114). -/
  spsrUnd : Word
  /-- The current status register (R110). -/
  cpsr : Word
  /-- The prefetch slot executed next (R120). -/
  slot0 : Word
  /-- The prefetch slot after it (R120). -/
  slot1 : Word
  /-- The currently executing instruction word (R120). -/
  curInstr : Word
  /-- The cost of the last code fetch (R120). -/
  codeCycles : Nat
  /-- The cost of the last data access (R120). -/
  dataCycles : Nat
  /-- The cycle counter of the iteration (R120). -/
  cycles : Nat
  /-- The engine's absolute time (R120). -/
  now : Nat
  /-- The halt level (R130). -/
  halt : HaltLevel
  /-- The CPU-visible interrupt pending signal (R131). -/
  irqLine : Bool
  /-- The control word of CP15 (R125). -/
  ctrl : Word
  /-- The exception vector base (R126). -/
  exceptionBase : Word
  /-- The instruction cache (R127). -/
  ic : Vector CacheSet 64
  /-- The victim generator's state (R127). -/
  icRng : Nat
  /-- The interrupt controller (R135). -/
  intc : Intc
  /-- The event scheduler (R140). -/
  sched : Sched
  /-- The frame counter (R141). -/
  frameCount : Nat
  /-- Whether the last frame was a lag frame (R141). -/
  lagFrame : Bool
  /-- The fault mark (R145). -/
  faulted : Option Fault
  /-- Memory contents (R201). -/
  mem : Memory
  /-- The parameters (R10). -/
  params : Params
  /-- Model's own: the collaborators' input (R1250). -/
  inputs : Inputs
  /-- Model's own: the data-access costs of the instruction in progress (R425). -/
  dataCosts : List Nat
  /-- Model's own: the address and old halfword of R234's draw. -/
  thumbStale : Option (Word × Half)
  /-- Model's own: how many free values have been drawn. -/
  draws : Nat
  /-- Model's own: the collaborator activity of the frame (R1220). -/
  activity : List Activity
  deriving DecidableEq, Repr

/-- An invalid line; its tag and data are never read (R1304; notes/assumptions/7.md). -/
def CacheLine.invalid : CacheLine := { data := Vector.replicate 32 0#8, tag := 0#21, valid := false }

/-- A cache set after reset (R160). -/
def CacheSet.empty : CacheSet := { lines := Vector.replicate 4 CacheLine.invalid, rr := 0#2 }

/-- An event slot after reset (R160, D64). -/
def EventSlot.fresh (id : Nat) : EventSlot := { id := id, pending := false, time := 0, cb := none, param := 0#32 }

/-- The machine right after core reset (R160, R1300), with empty memory and the parameters of
`Config.params`. The reset `JumpTo(RESET_PC)` has fetched the two words of empty memory at 0 and 4. -/
def State.reset : State where
  regs := (Vector.replicate 16 0#32).set 15 4#32
  bankFiq := Vector.replicate 7 0#32
  bankSvc := Vector.replicate 2 0#32
  bankAbt := Vector.replicate 2 0#32
  bankIrq := Vector.replicate 2 0#32
  bankUnd := Vector.replicate 2 0#32
  spsrFiq := 0x00000010#32
  spsrSvc := 0x00000010#32
  spsrAbt := 0x00000010#32
  spsrIrq := 0x00000010#32
  spsrUnd := 0x00000010#32
  cpsr := 0x000000D3#32
  slot0 := 0#32
  slot1 := 0#32
  curInstr := 0#32
  codeCycles := Config.codeCost 4#32 4 true
  dataCycles := 0
  cycles := Config.codeCost 0#32 4 false + Config.codeCost 4#32 4 true
  now := 0
  halt := .none
  irqLine := false
  ctrl := 0x00050078#32
  exceptionBase := 0#32
  ic := Vector.replicate 64 CacheSet.empty
  icRng := Config.rngSeed
  intc := { ctl := Vector.replicate 40 0#8, pending := 0#64, latched := none,
            threshold := Config.thresholdReset.val }
  sched := { slots := Config.eventIds.map EventSlot.fresh, sysTime := 0, scheduledInPass := none }
  frameCount := 0
  lagFrame := false
  faulted := none
  mem := []
  params := Config.params
  inputs := { answers := [], timers := [], callbacks := [] }
  dataCosts := []
  thumbStale := none
  draws := 0
  activity := []

end Sys2Proof.Machine
end

