-- ==== Sys2Proof/Machine/Bits.lean ====
section
/-! DEFINITION. Bit fields, bytes, sign extension and saturation: the notation and the helpers of spec/00_scope.md
R11-R13. -/

namespace Sys2Proof.Machine

/-- `w` with bit `i` set to `b` (R11). -/
def setBit {m : Nat} (w : BitVec m) (i : Nat) (b : Bool) : BitVec m :=
  if b then w ||| (BitVec.ofNat m (2 ^ i)) else w &&& ~~~(BitVec.ofNat m (2 ^ i))

/-- `w AND NOT 3` (R208). -/
def alignWord (a : Word) : Word := a &&& 0xFFFFFFFC#32

/-- `a AND NOT 1` (R410). -/
def alignHalf (a : Word) : Word := a &&& 0xFFFFFFFE#32

/-- The bytes of an access (R12). -/
def Width.bytes : Width → Nat
  | .byte => 1
  | .half => 2
  | .word => 4

/-- The bytes of an access as an address increment. -/
def Width.size (n : Width) : Word := BitVec.ofNat 32 n.bytes

/-- Byte `k` of a word: `v[8k+7:8k]` (R206). -/
def byteOf (v : Word) (k : Nat) : Byte := (v >>> (8 * k)).setWidth 8

/-- The little-endian value of bytes, lowest address first (R205). -/
def leValue : List Byte → Word
  | [] => 0#32
  | b :: r => b.setWidth 32 ||| (leValue r <<< 8)

/-- `sext_32` of the low byte (R12). -/
def sextByte (v : Word) : Word := (v.setWidth 8).signExtend 32

/-- `sext_32` of the low halfword (R12). -/
def sextHalf (v : Word) : Word := (v.setWidth 16).signExtend 32

/-- `Half(v, t)`: the signed top or bottom half of a word (R610). -/
def signedHalf (v : Word) (top : Bool) : Int :=
  if top then (v.extractLsb' 16 16).toInt else (v.extractLsb' 0 16).toInt

/-- `ASR(v, n)` (R12). -/
def asr (v : Word) (n : Nat) : Word := v.sshiftRight n

/-- `ROR(v, n)`, by n mod 32 (R12). -/
def ror (v : Word) (n : Nat) : Word := v.rotateRight (n % 32)

/-- `SignedSat32(i)` (R13): the saturated value, and whether it saturated. -/
def signedSat32 (i : Int) : Word × Bool :=
  if i > 2 ^ 31 - 1 then (0x7FFFFFFF#32, true)
  else if i < -(2 ^ 31) then (0x80000000#32, true)
  else (BitVec.ofInt 32 i, false)

/-- Whether an exact integer is outside the signed 32-bit range (R610, R611). -/
def overflows32 (i : Int) : Bool := i > 2 ^ 31 - 1 || i < -(2 ^ 31)

/-- The number of leading zero bits of a word (R545), counted from bit `n - 1` down. -/
def leadingZeros (v : Word) : Nat → Nat
  | 0 => 0
  | n + 1 => if v.getLsbD n then 0 else leadingZeros v n + 1

/-- The listed registers of an n-bit register list, ascending (R680). -/
def listed {m : Nat} (list : BitVec m) : List Nat := (List.range m).filter fun i => list.getLsbD i

/-- `popcount(list)` (R680). -/
def popcount {m : Nat} (list : BitVec m) : Nat := (listed list).length

/-- `Rn` is the lowest-numbered listed register (R684). -/
def isLowest {m : Nat} (list : BitVec m) (rn : Nat) : Bool := (listed list).head? == some rn

end Sys2Proof.Machine
end

