-- ==== Sys2Proof/Machine/Intc.lean ====
section
/-! DEFINITION. The interrupt controller: spec/60_exceptions.md R1200-R1207 over the state of spec/10_state.md R135. -/

namespace Sys2Proof.Machine

/-- The enable bit of a control byte (R135, D39). -/
def ctlEnable (e : CtlEncoding) (b : Byte) : Bool := b.getLsbD e.enableBit

/-- The disable bit of a control byte (R135, D39). -/
def ctlDisable (e : CtlEncoding) (b : Byte) : Bool := b.getLsbD e.disableBit

/-- The 4-bit priority of a control byte, 0 the most urgent (R135, D39). -/
def ctlPrio (e : CtlEncoding) (b : Byte) : BitVec 4 := b.extractLsb' e.prioLow 4

/-- Line `l` may latch at priority level `p` (R1202): pending, enabled, not disabled, of that priority. -/
def lineQualifies (e : CtlEncoding) (c : Intc) (p : Nat) (l : Fin 40) : Bool :=
  c.pending.getLsbD l && ctlEnable e (c.ctl.get l) && !ctlDisable e (c.ctl.get l) &&
    (ctlPrio e (c.ctl.get l)).toNat == p

/-- The scan of R1202: levels 0 .. 15 below the threshold, lines ascending within a level. -/
def scanLines (e : CtlEncoding) (c : Intc) : Option (Fin 40) :=
  ((List.range 16).filter fun p => p < c.threshold).findSome? fun p =>
    (List.finRange 40).find? fun l => lineQualifies e c p l

/-- `UpdateIRQ()` (R1202). -/
def updateIrq (s : State) : State :=
  match s.intc.latched with
  | some _ => s
  | none =>
    match scanLines s.params.ctlEncoding s.intc with
    | some l => { s with intc := { s.intc with latched := some l }, irqLine := true }
    | none => { s with irqLine := false }

/-- `SetIRQ(line)` (R1201): a line of 40 or more is ignored (D42). -/
def setIrq (s : State) (line : Nat) : State :=
  if h : line < 40 then
    if ctlDisable s.params.ctlEncoding (s.intc.ctl.get ⟨line, h⟩) then s
    else updateIrq { s with intc := { s.intc with pending := setBit s.intc.pending line true } }
  else s

/-- `AcknowledgeIRQ(t)` (R1204): with nothing latched only the threshold changes (D43). -/
def acknowledgeIrq (s : State) (t : Nat) : State :=
  match s.intc.latched with
  | none => { s with intc := { s.intc with threshold := t } }
  | some l =>
    updateIrq { s with
      intc := { s.intc with threshold := t, pending := setBit s.intc.pending l false, latched := none },
      irqLine := false }

/-- `WriteCtl(line, byte)` (R1205): the control byte, then `UpdateIRQ()` (D41); a line of 40 or more is ignored. -/
def writeCtl (s : State) (line : Nat) (b : Byte) : State :=
  if h : line < 40 then
    updateIrq { s with intc := { s.intc with ctl := s.intc.ctl.set line b h } }
  else s

/-- The value a read of a controller register gives (R1206): the state of R135. A write-only port reads as no
register does, so it has no value here. -/
def intcRead (s : State) : IntcPort → Option Word
  | .readPendingLow => some (s.intc.pending.extractLsb' 0 32)
  | .readPendingHigh => some (s.intc.pending.extractLsb' 32 32)
  | .readLatched =>
    match s.intc.latched with
    | some l => some (BitVec.ofNat 32 l)
    | none => some Config.latchSentinel
  | .readThreshold => some (BitVec.ofNat 32 s.intc.threshold)
  | .readCtl l => some ((s.intc.ctl.get l).setWidth 32)
  | .setIrq => none
  | .acknowledge => none
  | .writeCtl _ => none

/-- The effect of a write to a controller register (R1206); `none` where the port is a read port. -/
def intcWrite (s : State) (v : Word) : IntcPort → Option State
  | .setIrq => some (setIrq s v.toNat)
  | .acknowledge => some (acknowledgeIrq s v.toNat)
  | .writeCtl l => some (writeCtl s l (v.setWidth 8))
  | .readPendingLow => none
  | .readPendingHigh => none
  | .readLatched => none
  | .readThreshold => none
  | .readCtl _ => none

end Sys2Proof.Machine
end

