-- ==== Sys2Proof/Machine/Scheduler.lean ====
section
/-! DEFINITION. The event scheduler's operations: spec/60_exceptions.md R1210-R1212 over the state of spec/10_state.md
R140. `RunSystem` (R1213), which runs callbacks, is in Engine.lean. -/

namespace Sys2Proof.Machine

/-- The slot of an event id; none for an id outside `EVENT_IDS` (D68). -/
def eventSlot (s : State) (id : Nat) : Option EventSlot := s.sched.slots.find? fun e => e.id == id

/-- Every slot of the id replaced by its image. -/
def updateSlot (s : State) (id : Nat) (f : EventSlot → EventSlot) : State :=
  { s with sched := { s.sched with slots := s.sched.slots.map fun e => if e.id == id then f e else e } }

/-- The timestamp of a schedule (R1210): `now` excludes the cycles of the instruction in progress (D68). -/
def eventTime (s : State) (e : EventSlot) (kind : EventKind) (d : Nat) : Nat :=
  match kind with
  | .relative => s.now + d
  | .periodic => e.time + d
  | .absolute => d

/-- `ScheduleEvent(id, kind, d, cb, param)` (R1210): rejected while the id is pending, ignored for an id
outside `EVENT_IDS`. -/
def scheduleEvent (s : State) (id : Nat) (kind : EventKind) (d cb : Nat) (param : Word) : State :=
  match eventSlot s id with
  | none => s
  | some e =>
    if e.pending then s
    else
      let s' := updateSlot s id fun e =>
        { e with time := eventTime s e kind d, cb := some cb, param := param, pending := true }
      { s' with sched := { s'.sched with scheduledInPass := s'.sched.scheduledInPass.map fun l => id :: l } }

/-- `CancelEvent(id)` (R1211): the pending bit is cleared, the rest kept. -/
def cancelEvent (s : State) (id : Nat) : State := updateSlot s id fun e => { e with pending := false }

/-- The least pending timestamp (R1212); none where nothing is pending. -/
def minPendingTime (s : State) : Option Nat :=
  ((s.sched.slots.filter fun e => e.pending).map fun e => e.time).min?

/-- `NextWakeTime()` (R1212). -/
def nextWakeTime (s : State) : Nat :=
  match minPendingTime s with
  | some m =>
    if m < s.sched.sysTime + s.params.maxBurst + s.params.burstMargin then m
    else s.sched.sysTime + s.params.maxBurst
  | none => s.sched.sysTime + s.params.maxBurst

end Sys2Proof.Machine
end

