-- ==== Sys2Proof/Machine/Memory.lean ====
section
/-! DEFINITION. Memory and the bus: spec/20_memory.md R200-R211 and R221, with what a peripheral may do during an access
(spec/60_exceptions.md R1250). -/

namespace Sys2Proof.Machine

/-! ### The byte store -/

/-- The byte at a storage key; an unlisted byte reads 0 (notes/assumptions/1.md). -/
def Memory.read : Memory → Nat → Byte
  | [], _ => 0#8
  | (k, b) :: r, a => if k = a then b else Memory.read r a

/-- One byte written: the entry moves to its place, and a 0 removes it, so that equal memories are equal lists. -/
def Memory.write : Memory → Nat → Byte → Memory
  | [], a, v => if v = 0#8 then [] else [(a, v)]
  | (k, b) :: r, a, v =>
    if a < k then (if v = 0#8 then (k, b) :: r else (a, v) :: (k, b) :: r)
    else if a = k then (if v = 0#8 then r else (a, v) :: r)
    else (k, b) :: Memory.write r a v

/-- The canonical form: addresses strictly rising, no entry 0. -/
def Memory.wf : Memory → Bool
  | [] => true
  | (k, b) :: r => b != 0#8 && r.all (fun c => k < c.1) && Memory.wf r

/-- Bytes written at storage keys, in order. -/
def Memory.writeAll (m : Memory) : List (Nat × Byte) → Memory
  | [] => m
  | (k, b) :: r => (Memory.write m k b).writeAll r

/-! ### Regions (R201-R203) -/

/-- The region holds the address. -/
def regionHolds (r : Region) (a : Word) : Bool := r.base.toNat ≤ a.toNat && a.toNat < r.base.toNat + r.size

/-- The buffer of a directly mapped region. -/
def regionFlat (r : Region) : Option (Word × Nat) :=
  match r.kind with
  | .flat mask buffer => some (mask, buffer)
  | .device => none

/-- The "get memory region" query (R201): the mask and buffer of the first flat region holding the address. -/
def flatRegion (p : Params) (a : Word) : Option (Word × Nat) :=
  p.regions.findSome? fun r => if regionHolds r a then regionFlat r else none

/-- Some peripheral claims the address (R203). -/
def isDevice (p : Params) (a : Word) : Bool := p.regions.any fun r => regionHolds r a && r.kind == .device

/-- The storage key of an address in a flat region: index `a AND mask` of its buffer (R202). -/
def storageKey (f : Word × Nat) (a : Word) : Nat := f.2 + (a &&& f.1).toNat

/-- The storage keys of an access of `n` bytes at `a` in a flat region (R205). -/
def accessKeys (f : Word × Nat) (a : Word) (n : Nat) : List Nat :=
  (List.range n).map fun k => storageKey f (a + BitVec.ofNat 32 k)

/-- The byte an address names in main memory or a flat code region, where it is directly mapped. -/
def peekByte (s : State) (a : Word) : Option Byte :=
  (flatRegion s.params a).map fun f => s.mem.read (storageKey f a)

/-- A little-endian read of a flat region (R205). -/
def flatRead (m : Memory) (f : Word × Nat) (a : Word) (n : Nat) : Word :=
  leValue ((accessKeys f a n).map fun k => m.read k)

/-- A little-endian write of a flat region (R206): byte `a + k` receives `v[8k+7:8k]`. -/
def flatWrite (m : Memory) (f : Word × Nat) (a : Word) (n : Nat) (v : Word) : Memory :=
  m.writeAll ((List.range n).map fun k => (storageKey f (a + BitVec.ofNat 32 k), byteOf v k))

/-! ### Collaborators' calls (R1250) -/

/-- One call of a collaborator (R1250). -/
def runCall (s : State) : Call → State
  | .irq line => setIrq s line
  | .ack t => acknowledgeIrq s t
  | .ctl line b => writeCtl s line b
  | .sched id kind d cb param => scheduleEvent s id kind d cb param
  | .cancel id => cancelEvent s id
  | .halt1 => { s with halt := .singleShot }

/-- A collaborator's calls, in order. -/
def runCalls (s : State) (l : List Call) : State := l.foldl runCall s

/-- The next answer of the peripherals, and the state with it taken; where no script gives one, a free value
and no call (notes/assumptions/15.md). -/
def takeAnswer (s : State) (a : Word) (n : Nat) : Answer × State :=
  match s.inputs.answers with
  | x :: r => (x, { s with inputs := { s.inputs with answers := r } })
  | [] => ({ value := Config.deviceRead s.draws a n, calls := [] }, { s with draws := s.draws + 1 })

/-- The low `n` bytes of a word. -/
def lowBytes (v : Word) (n : Nat) : Word := (v.setWidth (8 * n)).setWidth 32

/-- A peripheral's read (R205): one bus call; its value is the peripheral's, its calls run within the access. -/
def deviceReadOp (s : State) (a : Word) (n : Nat) : Word × State :=
  let x := takeAnswer s a n
  let v := lowBytes x.1.value n
  (v, runCalls { x.2 with activity := x.2.activity ++ [.deviceRead a n v x.1.calls] } x.1.calls)

/-- A peripheral's write (R206): one bus call, its calls run within the access. -/
def deviceWriteOp (s : State) (a : Word) (n : Nat) (v : Word) : State :=
  let x := takeAnswer s a n
  runCalls { x.2 with activity := x.2.activity ++ [.deviceWrite a n (lowBytes v n) x.1.calls] } x.1.calls

/-! ### The data path (R204-R206) -/

/-- The value of the controller's read register at an address (R1206), none where there is none. -/
def intcReadAt (s : State) (a : Word) : Option Word :=
  s.params.intcMap.findSome? fun r => if r.address = a then intcRead s r.port else none

/-- The effect of a write to the controller's register at an address (R1206), none where there is none. -/
def intcWriteAt (s : State) (a : Word) (v : Word) : Option State :=
  s.params.intcMap.findSome? fun r => if r.address = a then intcWrite s v r.port else none

/-- `MemRead(a, n)` (R205) for any number of bytes up to 4: flat memory, the controller's registers, a
peripheral, or 0 where the address is unmapped (R203; the order is notes/assumptions/21.md). -/
def busRead (s : State) (a : Word) (n : Nat) : Word × State :=
  match flatRegion s.params a with
  | some f => (flatRead s.mem f a n, s)
  | none =>
    match intcReadAt s a with
    | some v => (lowBytes v n, s)
    | none => if isDevice s.params a then deviceReadOp s a n else (0#32, s)

/-- `MemWrite(a, n, v)` (R206). -/
def busWrite (s : State) (a : Word) (n : Nat) (v : Word) : State :=
  match flatRegion s.params a with
  | some f => { s with mem := flatWrite s.mem f a n v }
  | none =>
    match intcWriteAt s a (lowBytes v n) with
    | some s' => s'
    | none => if isDevice s.params a then deviceWriteOp s a n v else s

/-! ### `BUS_ABORT` (R221) -/

/-- The window covers an access of the width. -/
def windowHasWidth (w : AbortWindow) : Width → Bool
  | .byte => w.bytes
  | .half => w.halves
  | .word => w.words

/-- `BUS_ABORT(addr, width, isWrite)` (R221, D15). -/
def busAbort (p : Params) (a : Word) (n : Width) (isWrite : Bool) : Bool :=
  p.abortWindows.any fun w =>
    w.base.toNat ≤ a.toNat && a.toNat < w.base.toNat + w.size && windowHasWidth w n &&
      (if isWrite then w.writes else w.reads)

end Sys2Proof.Machine
end

