-- ==== Sys2Proof/Machine/Fetch.lean ====
section
/-! DEFINITION. The code-read path and the instruction cache: spec/20_memory.md R230-R248. -/

namespace Sys2Proof.Machine

/-- `tag(a) = a[31:11]` (R240). -/
def cacheTag (a : Word) : BitVec 21 := a.extractLsb' 11 21

/-- `set(a) = a[10:5]` (R240). -/
def cacheIndex (a : Word) : Fin 64 := (a.extractLsb' 5 6).toFin

/-- `off(a) = a[4:0]` (R240). -/
def cacheOffset (a : Word) : Nat := (a.extractLsb' 0 5).toNat

/-- `lineBase(a) = a AND NOT 0x1F` (R240). -/
def lineBase (a : Word) : Word := a &&& 0xFFFFFFE0#32

/-- Caching is active (R230, D21). -/
def cachingActive (s : State) : Bool := s.ctrl.getLsbD 12

/-- The way of a set that holds a tag validly (R241). -/
def hitWay (c : CacheSet) (tag : BitVec 21) : Option (Fin 4) :=
  (List.finRange 4).find? fun w => (c.lines.get w).valid && (c.lines.get w).tag == tag

/-- The `n` bytes of a line from an offset, little-endian (R241). -/
def lineValue (l : CacheLine) (off n : Nat) : Word :=
  leValue ((List.range n).map fun k => l.data[(off + k) % 32]'(Nat.mod_lt _ (by decide)))

/-- A set of the cache replaced. -/
def setCacheSet (s : State) (i : Fin 64) (c : CacheSet) : State := { s with ic := s.ic.set i.val c i.isLt }

/-- `Victim(s)` (R243): the way a miss in set `i` replaces, and the state with its counter or generator advanced. -/
def victimWay (s : State) (i : Fin 64) : Fin 4 × State :=
  let c := s.ic.get i
  if s.ctrl.getLsbD 14 then (c.rr.toFin, setCacheSet s i { c with rr := c.rr + 1#2 })
  else ((Config.victimStep s.icRng).1.toFin, { s with icRng := (Config.victimStep s.icRng).2 })

/-- The byte-by-byte fill of a line that is not directly mapped (R244): `n` more byte reads from `a` up. -/
def busFill : Nat → State → Word → List Byte × State
  | 0, s, _ => ([], s)
  | n + 1, s, a =>
    let x := busRead s a 1
    let y := busFill n x.2 (a + 1#32)
    (x.1.setWidth 8 :: y.1, y.2)

/-- `LineFill(lineBase)` (R244): the 32 bytes of the line. -/
def lineFill (s : State) (b : Word) : Vector Byte 32 × State :=
  match flatRegion s.params b with
  | some f => (Vector.ofFn fun k : Fin 32 => s.mem.read (storageKey f (b + BitVec.ofNat 32 k)), s)
  | none =>
    let x := busFill 32 s b
    (Vector.ofFn fun k : Fin 32 => x.1.getD k 0#8, x.2)

/-- The line a miss stores in way `w` of set `i` (R242). -/
def installLine (s : State) (i : Fin 64) (w : Fin 4) (l : CacheLine) : State :=
  setCacheSet s i { s.ic.get i with lines := (s.ic.get i).lines.set w.val l w.isLt }

/-- `ICacheMiss(a, n)` (R242): the value, the cost, and the state with the line filled. -/
def cacheMiss (s : State) (a : Word) (n : Nat) : Word × Nat × State :=
  let v := victimWay s (cacheIndex a)
  let d := lineFill v.2 (lineBase a)
  let l : CacheLine := { data := d.1, tag := cacheTag a, valid := true }
  (lineValue l (cacheOffset a) n, Config.missCost (lineBase a), installLine d.2 (cacheIndex a) v.1 l)

/-- `ICacheLookup(a, n)` (R241): a hit costs 1. -/
def cacheLookup (s : State) (a : Word) (n : Nat) : Word × Nat × State :=
  match hitWay (s.ic.get (cacheIndex a)) (cacheTag a) with
  | some w => (lineValue ((s.ic.get (cacheIndex a)).lines.get w) (cacheOffset a) n, 1, s)
  | none => cacheMiss s a n

/-- A fetch of `a` would be answered by the cache (R233). -/
def cacheHit (s : State) (a : Word) : Bool :=
  cachingActive s && (hitWay (s.ic.get (cacheIndex a)) (cacheTag a)).isSome

/-- `FetchCode(a, n)` (R230): the instruction bits, and the state with `code_cycles` and the cache updated. -/
def fetchCode (s : State) (a : Word) (n : Width) (sequential : Bool) : Word × State :=
  if cachingActive s then
    let x := cacheLookup s a n.bytes
    (x.1, { x.2.2 with codeCycles := x.2.1 })
  else
    let x := busRead s a n.bytes
    (x.1, { x.2 with codeCycles := Config.codeCost a n.bytes sequential })

/-- Invalidate the lines of one set whose tag matches, or every line of it (R246). -/
def invalidateSet (keep : CacheLine → Bool) (c : CacheSet) : CacheSet :=
  { c with lines := Vector.ofFn fun w =>
      let l := c.lines.get w
      if keep l then l else { l with valid := false } }

/-- Invalidate all lines (R246, R858). -/
def invalidateAll (s : State) : State :=
  { s with ic := Vector.ofFn fun i => invalidateSet (fun _ => false) (s.ic.get i) }

/-- Invalidate the line holding an address (R246, R859). -/
def invalidateLine (s : State) (a : Word) : State :=
  setCacheSet s (cacheIndex a) (invalidateSet (fun l => !(l.tag == cacheTag a)) (s.ic.get (cacheIndex a)))

/-! ### The Thumb halfword at A + 6 (R234) -/

/-- The halfword an address names in flat memory. -/
def peekHalf (s : State) (a : Word) : Option Half :=
  match peekByte s a, peekByte s (a + 1#32) with
  | some lo, some hi => some (hi ++ lo)
  | _, _ => none

/-- The sequential fetch of a Thumb step (R421): where R234 applies to this address, the bits fetched are the
old ones or the new ones, by a draw (D49). A fetch the cache answers sees neither store. -/
def fetchThumbNext (s : State) (a : Word) : Word × State :=
  match s.thumbStale with
  | some (b, old) =>
    if b = a ∧ cacheHit s a = false then
      let x := fetchCode { s with draws := s.draws + 1, thumbStale := none } a .half true
      (if Config.thumbFetchOld s.draws then old.setWidth 32 else x.1, x.2)
    else fetchCode { s with thumbStale := none } a .half true
  | none => fetchCode s a .half true

end Sys2Proof.Machine
end

