-- ==== Sys2Proof/Machine/Flags.lean ====
section
/-! DEFINITION. The condition table and every flag computation: spec/40_pipeline.md R402, R403 and spec/00_scope.md R13,
with the fields of the status register (spec/10_state.md R110). -/

namespace Sys2Proof.Machine

/-! ### The status register's fields (R110) -/

/-- `CPSR.N`. -/
def flagN (s : State) : Bool := s.cpsr.getLsbD 31
/-- `CPSR.Z`. -/
def flagZ (s : State) : Bool := s.cpsr.getLsbD 30
/-- `CPSR.C`. -/
def flagC (s : State) : Bool := s.cpsr.getLsbD 29
/-- `CPSR.V`. -/
def flagV (s : State) : Bool := s.cpsr.getLsbD 28
/-- `CPSR.Q`. -/
def flagQ (s : State) : Bool := s.cpsr.getLsbD 27
/-- `CPSR.J`, which reads 0 (D48). -/
def flagJ (s : State) : Bool := s.cpsr.getLsbD 24
/-- `CPSR.I`: IRQ masked. -/
def flagI (s : State) : Bool := s.cpsr.getLsbD 7
/-- `CPSR.F`: FIQ masked. -/
def flagF (s : State) : Bool := s.cpsr.getLsbD 6
/-- `CPSR.T`: Thumb state. -/
def flagT (s : State) : Bool := s.cpsr.getLsbD 5
/-- `CPSR.M`. -/
def modeOf (w : Word) : BitVec 5 := w.extractLsb' 0 5

/-! ### Conditions (R402, R403) -/

/-- The condition lookup table (R402): bit n of entry c says whether condition c holds of the flag
nibble n = N:Z:C:V. -/
def conditionMask (c : BitVec 4) : BitVec 16 :=
  match c.toNat with
  | 0 => 0xF0F0#16
  | 1 => 0x0F0F#16
  | 2 => 0xCCCC#16
  | 3 => 0x3333#16
  | 4 => 0xFF00#16
  | 5 => 0x00FF#16
  | 6 => 0xAAAA#16
  | 7 => 0x5555#16
  | 8 => 0x0C0C#16
  | 9 => 0xF3F3#16
  | 10 => 0xAA55#16
  | 11 => 0x55AA#16
  | 12 => 0x0A05#16
  | 13 => 0xF5FA#16
  | 14 => 0xFFFF#16
  | _ => 0x0000#16

/-- `CheckCondition(c) = COND[c][CPSR[31:28]]` (R403). -/
def checkCondition (s : State) (c : BitVec 4) : Bool :=
  (conditionMask c).getLsbD (s.cpsr.extractLsb' 28 4).toNat

/-! ### Arithmetic with flags (R13) -/

/-- A result with the carry and overflow it leaves. -/
structure AluOut where
  value : Word
  carry : Bool
  overflow : Bool
  deriving DecidableEq, Repr

/-- `AddWithCarry(a, b, cin)` (R13): the exact unsigned and signed sums, narrowed. -/
def addWithCarry (a b : Word) (cin : Bool) : AluOut :=
  let u := a.toNat + b.toNat + cin.toNat
  let i := a.toInt + b.toInt + (cin.toNat : Int)
  let r := BitVec.ofNat 32 u
  { value := r, carry := 2 ^ 32 ≤ u, overflow := i ≠ r.toInt }

/-! ### Flag writes (R512, R600, R900) -/

/-- `CPSR.N <- r[31]; CPSR.Z <- (r == 0)` (R900). -/
def withNZ (w : Word) (r : Word) : Word := setBit (setBit w 31 (r.getLsbD 31)) 30 (r == 0#32)

/-- `withNZ` of a 64-bit result (R603). -/
def withNZ64 (w : Word) (p : BitVec 64) : Word := setBit (setBit w 31 (p.getLsbD 63)) 30 (p == 0#64)

/-- N, Z and C (R512, logical). -/
def withNZC (w : Word) (r : Word) (c : Bool) : Word := setBit (withNZ w r) 29 c

/-- N, Z, C and V (R512, arithmetic). -/
def withNZCV (w : Word) (r : Word) (c v : Bool) : Word := setBit (withNZC w r c) 28 v

/-- `if sat then CPSR.Q <- 1` (R550): Q is set, never cleared. -/
def withQ (w : Word) (sat : Bool) : Word := if sat then setBit w 27 true else w

end Sys2Proof.Machine
end

