-- ==== Sys2Proof/Machine/Ops.lean ====
section
/-! DEFINITION. The shared operations over registers, status, memory and exceptions: spec/10_state.md R101-R114,
spec/40_pipeline.md R405-R412, R422 and R425, spec/60_exceptions.md R1103-R1121, spec/43_arm_loadstore.md R650. TAKING
AN EXCEPTION is `enterException`, RETURNING from one `exceptionReturn`. -/

namespace Sys2Proof.Machine

/-- What an instruction's meaning answers. -/
abbrev Out := Host.Outcome State Fault Refusal

/-- What a part of an instruction answers: a value and a state; a state in which an exception has been
entered, which ends the instruction (R12 `raise`); or a fault, which stops the machine. -/
inductive Res (α : Type) where
  | ok (a : α) (s : State)
  | trap (s : State)
  | fault (f : Fault)

/-- Sequence: the rest of the instruction runs only where the part ended normally. -/
def Res.bind {α β : Type} (r : Res α) (f : α → State → Res β) : Res β :=
  match r with
  | .ok a s => f a s
  | .trap s => .trap s
  | .fault e => .fault e

/-- The instruction's parts end. -/
def done (s : State) : Res Unit := .ok () s

/-- `if bad then fault Unpredictable(reason)` (R12). -/
def unpredictableIf {α : Type} (bad : Bool) (f : Fault) (r : Res α) : Res α := if bad then .fault f else r

/-! ### Registers (R101) -/

/-- `x[i]` (R12); `x[15]` is the program counter as R405 defines it. -/
def reg (s : State) (i : Reg) : Word := s.regs.get i.toFin

/-- `x[i] <- v` (R12). No rule writes register 15 with it. -/
def setReg (s : State) (i : Reg) (v : Word) : State := { s with regs := s.regs.set i.toNat v i.isLt }

/-- The register number of a Thumb low-register field (R900). -/
def lowReg (r : LowReg) : Reg := r.setWidth 4

/-- The register number of a hi-register field: 8 is added from the H bit (R900). -/
def hiReg (h : Bool) (r : LowReg) : Reg := BitVec.ofBool h ++ r

/-- The instruction width of the state (R400): 4 in ARM state, 2 in Thumb state. -/
def instrWidth (s : State) : Width := if flagT s then .half else .word

/-- The address of the executing instruction (R405): two widths before `x[15]`. -/
def instrAddr (s : State) : Word := reg s 15#4 - (if flagT s then 4#32 else 8#32)

/-! ### Banks and modes (R102-R107) -/

/-- The modes that have a bank and a saved status (R102, R114). -/
inductive BankMode where
  | fiq
  | irq
  | svc
  | abt
  | und
  deriving DecidableEq, Repr

/-- The bank of a mode number; none for USR, SYS and every invalid number (R103). -/
def bankOf (m : BitVec 5) : Option BankMode :=
  if m = 0x11#5 then some .fiq
  else if m = 0x12#5 then some .irq
  else if m = 0x13#5 then some .svc
  else if m = 0x17#5 then some .abt
  else if m = 0x1B#5 then some .und
  else none

/-- The seven modes (R111). -/
def validMode (m : BitVec 5) : Bool := m == 0x10#5 || m == 0x1F#5 || (bankOf m).isSome

/-- The current mode (R110). -/
def curMode (s : State) : BitVec 5 := modeOf s.cpsr

/-- The mode is USR, the one unprivileged mode (R111, R1150). -/
def isUser (s : State) : Bool := curMode s == 0x10#5

/-- R13 and R14 of the live file (R103). -/
def liveTwo (s : State) : Vector Word 2 := Vector.ofFn fun i => s.regs.get ⟨13 + i.val, by omega⟩

/-- R8 to R14 of the live file (R103). -/
def liveSeven (s : State) : Vector Word 7 := Vector.ofFn fun i => s.regs.get ⟨8 + i.val, by omega⟩

/-- The live file with R13 and R14 replaced. -/
def withTwo (r : Vector Word 16) (b : Vector Word 2) : Vector Word 16 := (r.set 13 b[0]).set 14 b[1]

/-- The live file with R8 to R14 replaced. -/
def withSeven (r : Vector Word 16) (b : Vector Word 7) : Vector Word 16 :=
  ((((((r.set 8 b[0]).set 9 b[1]).set 10 b[2]).set 11 b[3]).set 12 b[4]).set 13 b[5]).set 14 b[6]

/-- The exchange of the live registers of one bank with its store (R104). -/
def swapBank (s : State) : Option BankMode → State
  | none => s
  | some .fiq => { s with regs := withSeven s.regs s.bankFiq, bankFiq := liveSeven s }
  | some .irq => { s with regs := withTwo s.regs s.bankIrq, bankIrq := liveTwo s }
  | some .svc => { s with regs := withTwo s.regs s.bankSvc, bankSvc := liveTwo s }
  | some .abt => { s with regs := withTwo s.regs s.bankAbt, bankAbt := liveTwo s }
  | some .und => { s with regs := withTwo s.regs s.bankUnd, bankUnd := liveTwo s }

/-- `SwitchMode(old, new)` (R104): no-op if the modes are equal. -/
def switchMode (s : State) (old new : BitVec 5) : State :=
  if old = new then s else swapBank (swapBank s (bankOf old)) (bankOf new)

/-- The store of a bank at live register `i` in its range (R106); 0 outside it. -/
def bankReg (s : State) (b : BankMode) (i : Reg) : Option Word :=
  match b with
  | .fiq => if 8 ≤ i.toNat ∧ i.toNat ≤ 14 then s.bankFiq[i.toNat - 8]? else none
  | .irq => if 13 ≤ i.toNat ∧ i.toNat ≤ 14 then s.bankIrq[i.toNat - 13]? else none
  | .svc => if 13 ≤ i.toNat ∧ i.toNat ≤ 14 then s.bankSvc[i.toNat - 13]? else none
  | .abt => if 13 ≤ i.toNat ∧ i.toNat ≤ 14 then s.bankAbt[i.toNat - 13]? else none
  | .und => if 13 ≤ i.toNat ∧ i.toNat ≤ 14 then s.bankUnd[i.toNat - 13]? else none

/-- A bank store written at live register `i` of its range. -/
def setBankReg (s : State) (b : BankMode) (i : Reg) (v : Word) : State :=
  match b with
  | .fiq => { s with bankFiq := s.bankFiq.setIfInBounds (i.toNat - 8) v }
  | .irq => { s with bankIrq := s.bankIrq.setIfInBounds (i.toNat - 13) v }
  | .svc => { s with bankSvc := s.bankSvc.setIfInBounds (i.toNat - 13) v }
  | .abt => { s with bankAbt := s.bankAbt.setIfInBounds (i.toNat - 13) v }
  | .und => { s with bankUnd := s.bankUnd.setIfInBounds (i.toNat - 13) v }

/-- `i ∈ banked(c)` for the current mode c (R103), with the bank. -/
def bankHolding (s : State) (i : Reg) : Option BankMode :=
  (bankOf (curMode s)).filter fun b => (bankReg s b i).isSome

/-- `UserReg(i)` (R107): the bank store where the current mode banks the register, else the live register. -/
def userReg (s : State) (i : Reg) : Word :=
  match bankHolding s i with
  | some b => (bankReg s b i).getD 0#32
  | none => reg s i

/-- `UserReg(i) <- v` (R107). -/
def setUserReg (s : State) (i : Reg) (v : Word) : State :=
  match bankHolding s i with
  | some b => setBankReg s b i v
  | none => setReg s i v

/-- The saved status slot of a bank (R114). -/
def bankSpsr (s : State) : BankMode → Word
  | .fiq => s.spsrFiq
  | .irq => s.spsrIrq
  | .svc => s.spsrSvc
  | .abt => s.spsrAbt
  | .und => s.spsrUnd

/-- A saved status slot written. -/
def setBankSpsr (s : State) (b : BankMode) (v : Word) : State :=
  match b with
  | .fiq => { s with spsrFiq := v }
  | .irq => { s with spsrIrq := v }
  | .svc => { s with spsrSvc := v }
  | .abt => { s with spsrAbt := v }
  | .und => { s with spsrUnd := v }

/-! ### The status register (R112) -/

/-- The status register with its flags replaced and nothing else (R113). -/
def setFlags (s : State) (w : Word) : State := { s with cpsr := w }

/-- The status register replaced, J forced to 0, and the banks switched (R112), whatever the mode field is. -/
def replaceCpsr (s : State) (v : Word) : State :=
  switchMode { s with cpsr := setBit v 24 false } (curMode s) (modeOf v)

/-- `WriteCPSR(v)` (R112). -/
def writeCpsr (s : State) (v : Word) : Res Unit :=
  unpredictableIf (!validMode (modeOf v)) .badMode (done (replaceCpsr s v))

/-! ### The program counter (R406-R412) -/

/-- One fetch of `JumpTo` (R410): the slot's word and the state with the fetch charged. -/
def chargedFetch (s : State) (a : Word) (n : Width) (sequential : Bool) : Word × State :=
  let x := fetchCode s a n sequential
  (x.1, { x.2 with cycles := x.2.cycles + x.2.codeCycles })

/-- The end of `JumpTo` (R410): the program counter one width ahead and both slots refilled. -/
def refill (s : State) (a : Word) (n : Width) : State :=
  let x := chargedFetch (setReg s 15#4 (a + n.size)) a n false
  let y := chargedFetch { x.2 with slot0 := x.1 } (a + n.size) n true
  { y.2 with slot1 := y.1 }

/-- `JumpTo(a, false)` (R410): bit 0 selects Thumb state. -/
def jumpTo (s : State) (a : Word) : State :=
  if a.getLsbD 0 then
    refill { s with cpsr := setBit s.cpsr 5 true, thumbStale := none } (alignHalf a) .half
  else
    refill { s with cpsr := setBit s.cpsr 5 false, thumbStale := none } (alignWord a) .word

/-- `BranchWritePC(v)` (R406). -/
def branchWritePc (s : State) (v : Word) : Res Unit :=
  if flagT s then done (jumpTo s (alignHalf v ||| 1#32))
  else unpredictableIf (v.extractLsb' 0 2 != 0b00#2) .unalignedArmPc (done (jumpTo s v))

/-- `BXWritePC(v)` (R407). -/
def bxWritePc (s : State) (v : Word) : Res Unit :=
  unpredictableIf (v.extractLsb' 0 2 == 0b10#2) .interworkBits (done (jumpTo s v))

/-- `LoadWritePC(v)` (R408): loads to PC interwork. -/
def loadWritePc (s : State) (v : Word) : Res Unit := bxWritePc s v

/-- `RestoreSavedStatus()` (R1120, R1121): bit 4 is forced; a mode with no saved status keeps its CPSR. -/
def restoreSavedStatus (s : State) : Res Unit :=
  match bankOf (curMode s) with
  | some b => writeCpsr s (setBit (bankSpsr s b) 4 true)
  | none => done { s with cpsr := setBit s.cpsr 4 true }

/-- `ExceptionReturnPC(v) = JumpTo(v, true)` (R408, R410): THE RETURN FROM AN EXCEPTION. The status is restored
first, and the width of the target follows the restored T. -/
def exceptionReturn (s : State) (v : Word) : Res Unit :=
  (restoreSavedStatus s).bind fun _ t =>
    unpredictableIf (!flagT t && v.extractLsb' 0 2 != 0b00#2) .unalignedArmReturn
      (done (jumpTo t (alignHalf v ||| (if flagT t then 1#32 else 0#32))))

/-- `FillPipeline()` (R412): both slots refetched at the current program counter, `cycles` unchanged. -/
def fillPipeline (s : State) : State :=
  let n := instrWidth s
  let x := fetchCode { s with thumbStale := none } (reg s 15#4 - n.size) n true
  let y := fetchCode { x.2 with slot0 := x.1 } (reg x.2 15#4) n true
  { y.2 with slot1 := y.1 }

/-! ### Exceptions (R1100-R1113) -/

/-- The exceptions of the block (R1100). -/
inductive Exc where
  | reset
  | undefined
  | softwareInterrupt
  | prefetchAbort
  | dataAbort
  | irq
  | fiq
  deriving DecidableEq, Repr

/-- The target mode's bank (R1104). -/
def excBank : Exc → BankMode
  | .reset => .svc
  | .undefined => .und
  | .softwareInterrupt => .svc
  | .prefetchAbort => .abt
  | .dataAbort => .abt
  | .irq => .irq
  | .fiq => .fiq

/-- The mode number of a bank (R111). -/
def bankMode : BankMode → BitVec 5
  | .fiq => 0x11#5
  | .irq => 0x12#5
  | .svc => 0x13#5
  | .abt => 0x17#5
  | .und => 0x1B#5

/-- The vector offset (R1104). -/
def excOffset : Exc → Word
  | .reset => 0x00#32
  | .undefined => 0x04#32
  | .softwareInterrupt => 0x08#32
  | .prefetchAbort => 0x0C#32
  | .dataAbort => 0x10#32
  | .irq => 0x18#32
  | .fiq => 0x1C#32

/-- Whether entry sets F (R1104): Reset and FIQ do, IRQ by `IRQ_ENTRY_MASKS_F` (D13). -/
def excMasksF (p : Params) : Exc → Bool
  | .reset => true
  | .fiq => true
  | .irq => p.irqEntryMasksF
  | .undefined => false
  | .softwareInterrupt => false
  | .prefetchAbort => false
  | .dataAbort => false

/-- The status of the handler (R1103): the target mode, T = 0, I = 1, F set where the table says. -/
def excStatus (s : State) (k : Exc) : Word :=
  let v := (s.cpsr &&& ~~~0x1F#32) ||| (bankMode (excBank k)).setWidth 32
  let v := setBit (setBit v 5 false) 7 true
  if excMasksF s.params k then setBit v 6 true else v

/-- `EnterException(kind, ret)` (R1103): TAKING AN EXCEPTION, the one operation for every kind. -/
def enterException (s : State) (k : Exc) (ret : Word) : State :=
  let t := replaceCpsr (setBankSpsr s (excBank k) s.cpsr) (excStatus s k)
  jumpTo (setReg t 14#4 ret) (s.exceptionBase + excOffset k)

/-- The return address of a synchronous exception raised by the executing instruction (R1104): A + w for
Undefined and SWI, A + 4 for BKPT, A + 8 for a data abort. -/
def excReturn (s : State) : Exc → Word
  | .prefetchAbort => instrAddr s + 4#32
  | .dataAbort => instrAddr s + 8#32
  | .undefined => instrAddr s + (instrWidth s).size
  | .softwareInterrupt => instrAddr s + (instrWidth s).size
  | .reset => instrAddr s + (instrWidth s).size
  | .irq => instrAddr s + (instrWidth s).size
  | .fiq => instrAddr s + (instrWidth s).size

/-- `raise <Exception>()` (R12, R1103): the exception is entered and the instruction ends. -/
def raise {α : Type} (s : State) (k : Exc) : Res α := .trap (enterException s k (excReturn s k))

/-- `DispatchIRQ()` (R1105), between steps: the link is the next instruction's address plus 4. -/
def dispatchIrq (s : State) : State :=
  { enterException s .irq (reg s 15#4 - (instrWidth s).size + 4#32) with irqLine := false }

/-! ### Data accesses (R650, R209) -/

/-- A data access recorded in `data_cycles` and in the instruction's list of costs (R209, R425). -/
def recordAccess (s : State) (a : Word) (n : Width) : State :=
  let c := Config.dataCost a n.bytes (!s.dataCosts.isEmpty)
  { s with dataCycles := c, dataCosts := s.dataCosts ++ [c] }

/-- `Load(a, n)` (R650). -/
def load (s : State) (a : Word) (n : Width) : Res Word :=
  if busAbort s.params a n false then raise s .dataAbort
  else
    let x := busRead (recordAccess s a n) a n.bytes
    .ok x.1 x.2

/-- `Store(a, n, v)` (R650). -/
def store (s : State) (a : Word) (n : Width) (v : Word) : Res Unit :=
  if busAbort s.params a n true then raise s .dataAbort
  else done (busWrite (recordAccess s a n) a n.bytes v)

/-- What STR and STM store for a register (R650): R15 as the instruction's address plus `STORE_PC_OFFSET`. -/
def storedReg (s : State) (i : Reg) : Word :=
  if i = 15#4 then instrAddr s + (match s.params.storePc with | .eight => 8#32 | .twelve => 12#32) else reg s i

/-- `if wb then x[Rn] <- moved`, always last (R650). -/
def writeback (s : State) (wb : Bool) (rn : Reg) (moved : Word) : State := if wb then setReg s rn moved else s

/-! ### Running an instruction (R422, R423, R425) -/

/-- A condition-failed instruction (R422): it costs the step's code fetch and nothing else. -/
def chargeFetch (s : State) : State := { s with cycles := s.cycles + s.codeCycles }

/-- An executed instruction (R425): `EXEC_CYCLES` of the instruction, the code cost of its step's fetch and
the costs of its data accesses. `s` is the state it began in. -/
def finish (s : State) (r : Res Unit) : Out :=
  let charge (t : State) : State :=
    { t with cycles := t.cycles + Config.execCycles s.curInstr (flagT s) s.codeCycles t.dataCosts }
  match r with
  | .ok _ t => .next (charge t)
  | .trap t => .next (charge t)
  | .fault f => .fault f

/-- The state an instruction's body begins in: no data access made yet (R425). -/
def begun (s : State) : State := { s with dataCosts := [] }

/-- A meaning that no condition gates (R423, R752). -/
def run (s : State) (body : State → Res Unit) : Out := finish s (body (begun s))

/-- A meaning its condition field gates (R422). -/
def runIf (cond : BitVec 4) (s : State) (body : State → Res Unit) : Out :=
  if checkCondition s cond then run s body else .next (chargeFetch s)

/-- The should-be fields of an encoding hold their value, or the instruction faults (R342). -/
def shouldBe {α : Type} (good : Bool) (r : Res α) : Res α := unpredictableIf (!good) .shouldBe r

end Sys2Proof.Machine
end

