-- ==== Sys2Proof/Machine/Operands.lean ====
section
/-! DEFINITION. Every operand form: the shifter operand (spec/41_arm_dataproc.md R501-R511), the Thumb shifts
(spec/47_thumb_alu.md R900), and addressing modes 2, 3 and 4 (spec/43_arm_loadstore.md R651, R665, R680). -/

namespace Sys2Proof.Machine

/-! ### The shifter operand -/

/-- The shifter's second operand and carry (R500). -/
structure ShiftOut where
  value : Word
  carry : Bool
  deriving DecidableEq, Repr

/-- The immediate operand (R501): an 8-bit value rotated right by twice the rotation field. -/
def rotatedImm (rot : BitVec 4) (imm : BitVec 8) : Word := ror (imm.setWidth 32) (2 * rot.toNat)

/-- The immediate operand with its carry (R501). -/
def shiftImmediate (s : State) (rot : BitVec 4) (imm : BitVec 8) : ShiftOut :=
  { value := rotatedImm rot imm
    carry := if rot = 0#4 then flagC s else (rotatedImm rot imm).getLsbD 31 }

/-- A shift by an immediate (R502-R506): type, 5-bit amount and the carry flag; amount 0 of LSR and ASR is 32,
of ROR is RRX. -/
def shiftByImm (st : BitVec 2) (v : Word) (imm : BitVec 5) (c : Bool) : ShiftOut :=
  let n := imm.toNat
  if st = 0b00#2 then
    if n = 0 then { value := v, carry := c } else { value := v <<< n, carry := v.getLsbD (32 - n) }
  else if st = 0b01#2 then
    if n = 0 then { value := 0#32, carry := v.getLsbD 31 } else { value := v >>> n, carry := v.getLsbD (n - 1) }
  else if st = 0b10#2 then
    if n = 0 then { value := asr v 32, carry := v.getLsbD 31 } else { value := asr v n, carry := v.getLsbD (n - 1) }
  else
    if n = 0 then { value := setBit (v >>> 1) 31 c, carry := v.getLsbD 0 }
    else { value := ror v n, carry := v.getLsbD (n - 1) }

/-- A shift by a register's low byte `n` (R507-R510; the same rules as `ThumbShiftReg` of R900). -/
def shiftByReg (st : BitVec 2) (v : Word) (n : Nat) (c : Bool) : ShiftOut :=
  if n = 0 then { value := v, carry := c }
  else if st = 0b00#2 then
    if n < 32 then { value := v <<< n, carry := v.getLsbD (32 - n) }
    else { value := 0#32, carry := n == 32 && v.getLsbD 0 }
  else if st = 0b01#2 then
    if n < 32 then { value := v >>> n, carry := v.getLsbD (n - 1) }
    else { value := 0#32, carry := n == 32 && v.getLsbD 31 }
  else if st = 0b10#2 then
    if n < 32 then { value := asr v n, carry := v.getLsbD (n - 1) }
    else { value := asr v 32, carry := v.getLsbD 31 }
  else
    if n % 32 = 0 then { value := v, carry := v.getLsbD 31 }
    else { value := ror v (n % 32), carry := v.getLsbD (n % 32 - 1) }

/-- The immediate-shift register operand (R502-R506). -/
def shiftedReg (s : State) (st : BitVec 2) (imm : BitVec 5) (rm : Reg) : ShiftOut :=
  shiftByImm st (reg s rm) imm (flagC s)

/-- The register-shift operand (R507-R510): only the low byte of Rs counts. -/
def regShiftedReg (s : State) (st : BitVec 2) (rs rm : Reg) : ShiftOut :=
  shiftByReg st (reg s rm) ((reg s rs).setWidth 8).toNat (flagC s)

/-! ### Addressing modes 2 and 3 -/

/-- An address computed by addressing mode 2 or 3: the address, whether the base is written back, and the moved base. -/
structure Addr where
  address : Word
  wb : Bool
  moved : Word
  deriving DecidableEq, Repr

/-- The base moved by an offset, up or down (R651, R665). -/
def movedBase (u : Bool) (base off : Word) : Word := if u then base + off else base - off

/-- The address of `Mode2` and `Mode3` (R651, R665): pre-indexed (P = 1) or post-indexed. -/
def indexed (p u w : Bool) (base off : Word) : Addr :=
  if p then { address := movedBase u base off, wb := w, moved := movedBase u base off }
  else { address := base, wb := true, moved := movedBase u base off }

/-- `Mode2` with an immediate offset (R651), and its checks. -/
def mode2Imm (s : State) (p u w : Bool) (rn rd : Reg) (imm : BitVec 12) : Res Addr :=
  let x := indexed p u w (reg s rn) (imm.setWidth 32)
  unpredictableIf (x.wb && rn == 15#4) .writebackBasePc <|
    unpredictableIf (x.wb && rn == rd) .writebackBaseDest (.ok x s)

/-- `Mode2` with a shifted register offset (R651), and its checks. -/
def mode2Reg (s : State) (p u w : Bool) (rn rd : Reg) (imm : BitVec 5) (st : BitVec 2) (rm : Reg) : Res Addr :=
  let x := indexed p u w (reg s rn) (shiftedReg s st imm rm).value
  unpredictableIf (rm == 15#4) .mode2OffsetPc <|
    unpredictableIf (x.wb && rn == 15#4) .writebackBasePc <|
      unpredictableIf (x.wb && rn == rd) .writebackBaseDest <|
        unpredictableIf (x.wb && rn == rm) .writebackBaseOffset (.ok x s)

/-- The checks both forms of `Mode3` make (R665), and its address. -/
def mode3 (s : State) (p u w : Bool) (rn rd : Reg) (off : Word) : Res Addr :=
  let x := indexed p u w (reg s rn) off
  unpredictableIf (!p && w) .mode3PostWriteback <|
    unpredictableIf (x.wb && rn == 15#4) .writebackBasePc <|
      unpredictableIf (x.wb && rn == rd) .writebackBaseDest (.ok x s)

/-- `Mode3` with an 8-bit immediate offset (R665). -/
def mode3Imm (s : State) (p u w : Bool) (rn rd : Reg) (immHi immLo : BitVec 4) : Res Addr :=
  mode3 s p u w rn rd ((immHi ++ immLo).setWidth 32)

/-- `Mode3` with a register offset (R665): bits 11:8 are should-be-zero and Rm is not R15. -/
def mode3Reg (s : State) (p u w : Bool) (rn rd : Reg) (sbz : BitVec 4) (rm : Reg) : Res Addr :=
  shouldBe (sbz == 0#4) <| unpredictableIf (rm == 15#4) .mode3OffsetPc (mode3 s p u w rn rd (reg s rm))

/-! ### Addressing mode 4 -/

/-- The unaligned start address of a multiple transfer of `k` registers and the written-back base (R680). -/
def multipleBounds (p u : Bool) (b : Word) (k : Nat) : Word × Word :=
  let n := BitVec.ofNat 32 (4 * k)
  match p, u with
  | false, true => (b, b + n)
  | true, true => (b + 4#32, b + n)
  | false, false => (b - n + 4#32, b - n)
  | true, false => (b - n, b - n)

/-- `Mode4` (R680): the aligned start address and the written-back base. -/
def mode4 (s : State) (p u : Bool) (rn : Reg) (list : BitVec 16) : Res (Word × Word) :=
  unpredictableIf (list == 0#16) .emptyList <|
    unpredictableIf (rn == 15#4) .multipleBasePc
      (.ok (alignWord (multipleBounds p u (reg s rn) (popcount list)).1,
        (multipleBounds p u (reg s rn) (popcount list)).2) s)

end Sys2Proof.Machine
end

