-- ==== Sys2Proof/Machine/Branch.lean ====
section
/-! DEFINITION. ARM branches, software interrupt and breakpoint: spec/44_arm_branch.md R750-R757. -/

namespace Sys2Proof.Machine

/-- `x[15] + sext_32(imm24 : 00)` (R750). -/
def branchTarget (s : State) (imm : BitVec 24) : Word := reg s 15#4 + (imm ++ 0b00#2).signExtend 32

/-- B (R750). -/
def execB (cond : BitVec 4) (imm : BitVec 24) (s : State) : Out :=
  runIf cond s fun s => branchWritePc s (branchTarget s imm)

/-- BL (R751). -/
def execBl (cond : BitVec 4) (imm : BitVec 24) (s : State) : Out :=
  runIf cond s fun s => branchWritePc (setReg s 14#4 (instrAddr s + 4#32)) (branchTarget s imm)

/-- BLX(1) (R752): it bypasses the condition check and always enters Thumb state. -/
def execBlxImm (h : Bool) (imm : BitVec 24) (s : State) : Out :=
  run s fun s =>
    done (jumpTo (setReg s 14#4 (instrAddr s + 4#32))
      ((reg s 15#4 + (imm ++ BitVec.ofBool h ++ 0b0#1).signExtend 32) ||| 1#32))

/-- BX (R753). -/
def execBx (cond : BitVec 4) (sbo : BitVec 12) (rm : Reg) (s : State) : Out :=
  runIf cond s fun s => shouldBe (sbo == 0xFFF#12) (bxWritePc s (reg s rm))

/-- BXJ (R755): with no Jazelle state it is BX. -/
def execBxj (cond : BitVec 4) (sbo : BitVec 12) (rm : Reg) (s : State) : Out :=
  runIf cond s fun s =>
    shouldBe (sbo == 0xFFF#12) <| unpredictableIf (rm == 15#4) .bxjPc (bxWritePc s (reg s rm))

/-- BLX(2) (R754): the target is read before LR is written. -/
def execBlxReg (cond : BitVec 4) (sbo : BitVec 12) (rm : Reg) (s : State) : Out :=
  runIf cond s fun s =>
    shouldBe (sbo == 0xFFF#12) <|
      unpredictableIf (rm == 15#4) .blxPc (bxWritePc (setReg s 14#4 (instrAddr s + 4#32)) (reg s rm))

/-- SWI (R756): the comment field is not interpreted. -/
def execSwi (cond : BitVec 4) (_imm : BitVec 24) (s : State) : Out :=
  runIf cond s fun s => raise s .softwareInterrupt

/-- BKPT (R757): with a condition other than 1110 that passes, UNPREDICTABLE. -/
def execBkpt (cond : BitVec 4) (_immHi : BitVec 12) (_immLo : BitVec 4) (s : State) : Out :=
  runIf cond s fun s => unpredictableIf (cond != 0b1110#4) .conditionalBkpt (raise s .prefetchAbort)

end Sys2Proof.Machine
end

