-- ==== Sys2Proof/Machine/Coproc.lean ====
section
/-! DEFINITION. The system-control coprocessor and the coprocessor instructions: spec/46_cp15.md R850-R866 and
spec/45_arm_coprocessor.md R800-R807. -/

namespace Sys2Proof.Machine

/-- `Key(instr) = opc1 : CRn : CRm : opc2`, four bits each (R850). -/
def cp15Key (opc1 : BitVec 3) (crn crm : BitVec 4) (opc2 : BitVec 3) : BitVec 16 :=
  0b0#1 ++ opc1 ++ crn ++ crm ++ 0b0#1 ++ opc2

/-- `CP15Read(key)` (R852): the identification values, the control word, and 0 for every other key. -/
def cp15Read (s : State) (key : BitVec 16) : Word :=
  if key = 0x000#16 then s.params.mainId
  else if key = 0x001#16 then s.params.cacheType
  else if key = 0x100#16 then s.ctrl
  else 0#32

/-- The vector base a control word selects (R126). -/
def vectorBase (ctrl : Word) : Word := if ctrl.getLsbD 13 then 0xFFFF0000#32 else 0#32

/-- The control-word write (R855): a masked update, and the vector base derived again. -/
def writeControl (s : State) (v : Word) : State :=
  let c := (s.ctrl &&& ~~~s.params.ctrlWmask) ||| (v &&& s.params.ctrlWmask)
  { s with ctrl := c, exceptionBase := vectorBase c }

/-- `CP15Write(key, v)` (R855-R862): every key not listed changes nothing (R861). -/
def cp15Write (s : State) (key : BitVec 16) (v : Word) : State :=
  if key = 0x100#16 then writeControl s v
  else if key = 0x750#16 ∨ key = 0x770#16 ∨ key = 0x752#16 then invalidateAll s
  else if key = 0x751#16 ∨ key = 0x771#16 then invalidateLine s v
  else if key = 0x704#16 ∨ key = 0x782#16 then { s with halt := .indefinite }
  else s

/-- Only CP15 in a privileged mode is reached; anything else is Undefined (R800). -/
def cp15Access (s : State) (cp : BitVec 4) (r : Res Unit) : Res Unit :=
  if cp != 15#4 || isUser s then raise s .undefined else r

/-- MCR (R804). -/
def execMcr (cond : BitVec 4) (opc1 : BitVec 3) (crn : BitVec 4) (rd : Reg) (cp : BitVec 4) (opc2 : BitVec 3)
    (crm : BitVec 4) (s : State) : Out :=
  runIf cond s fun s =>
    cp15Access s cp <|
      unpredictableIf (rd == 15#4) .mcrFromPc (done (cp15Write s (cp15Key opc1 crn crm opc2) (reg s rd)))

/-- MRC (R805): with Rd = 15 it writes the four flags and no register. -/
def execMrc (cond : BitVec 4) (opc1 : BitVec 3) (crn : BitVec 4) (rd : Reg) (cp : BitVec 4) (opc2 : BitVec 3)
    (crm : BitVec 4) (s : State) : Out :=
  runIf cond s fun s =>
    cp15Access s cp <|
      let v := cp15Read s (cp15Key opc1 crn crm opc2)
      if rd = 15#4 then done (setFlags s ((s.cpsr &&& 0x0FFFFFFF#32) ||| (v &&& 0xF0000000#32)))
      else done (setReg s rd v)

/-- CDP (R801): Undefined for every coprocessor. -/
def execCdp (cond _opc1 _crn _crd _cp : BitVec 4) (_opc2 : BitVec 3) (_crm : BitVec 4) (s : State) : Out :=
  runIf cond s fun s => raise s .undefined

/-- LDC, pre-indexed or offset (R802). -/
def execLdcPre (cond : BitVec 4) (_u _n _w : Bool) (_rn : Reg) (_crd _cp : BitVec 4) (_imm : BitVec 8) (s : State) :
    Out := runIf cond s fun s => raise s .undefined

/-- LDC, post-indexed (R802). -/
def execLdcPost (cond : BitVec 4) (_u _n : Bool) (_rn : Reg) (_crd _cp : BitVec 4) (_imm : BitVec 8) (s : State) :
    Out := runIf cond s fun s => raise s .undefined

/-- LDC, unindexed (R802). -/
def execLdcUnindexed (cond : BitVec 4) (_n : Bool) (_rn : Reg) (_crd _cp : BitVec 4) (_opt : BitVec 8) (s : State) :
    Out := runIf cond s fun s => raise s .undefined

/-- STC, pre-indexed or offset (R803). -/
def execStcPre (cond : BitVec 4) (_u _n _w : Bool) (_rn : Reg) (_crd _cp : BitVec 4) (_imm : BitVec 8) (s : State) :
    Out := runIf cond s fun s => raise s .undefined

/-- STC, post-indexed (R803). -/
def execStcPost (cond : BitVec 4) (_u _n : Bool) (_rn : Reg) (_crd _cp : BitVec 4) (_imm : BitVec 8) (s : State) :
    Out := runIf cond s fun s => raise s .undefined

/-- STC, unindexed (R803). -/
def execStcUnindexed (cond : BitVec 4) (_n : Bool) (_rn : Reg) (_crd _cp : BitVec 4) (_opt : BitVec 8) (s : State) :
    Out := runIf cond s fun s => raise s .undefined

/-- MCRR (R806). -/
def execMcrr (cond : BitVec 4) (_rn _rd : Reg) (_cp _opc _crm : BitVec 4) (s : State) : Out :=
  runIf cond s fun s => raise s .undefined

/-- MRRC (R807). -/
def execMrrc (cond : BitVec 4) (_rn _rd : Reg) (_cp _opc _crm : BitVec 4) (s : State) : Out :=
  runIf cond s fun s => raise s .undefined

end Sys2Proof.Machine
end

