-- ==== Sys2Proof/Machine/DataProc.lean ====
section
/-! DEFINITION. ARM data processing: spec/41_arm_dataproc.md R512-R535, each of the sixteen instructions in its three
operand forms. -/

namespace Sys2Proof.Machine

/-- The sixteen data-processing functions (R520-R535). -/
inductive DpOp where
  | and
  | eor
  | sub
  | rsb
  | add
  | adc
  | sbc
  | rsc
  | tst
  | teq
  | cmp
  | cmn
  | orr
  | mov
  | bic
  | mvn
  deriving DecidableEq, Repr

/-- `writesRd` (R512, R513): every function but the four compares. -/
def dpWrites : DpOp → Bool
  | .tst => false
  | .teq => false
  | .cmp => false
  | .cmn => false
  | .and => true
  | .eor => true
  | .sub => true
  | .rsb => true
  | .add => true
  | .adc => true
  | .sbc => true
  | .rsc => true
  | .orr => true
  | .mov => true
  | .bic => true
  | .mvn => true

/-- `arithmetic` (R512): the functions that write V. -/
def dpArithmetic : DpOp → Bool
  | .sub => true
  | .rsb => true
  | .add => true
  | .adc => true
  | .sbc => true
  | .rsc => true
  | .cmp => true
  | .cmn => true
  | .and => false
  | .eor => false
  | .tst => false
  | .teq => false
  | .orr => false
  | .mov => false
  | .bic => false
  | .mvn => false

/-- A logical result: the carry is the shifter's (R512). -/
def logical (r : Word) (o : ShiftOut) : AluOut := { value := r, carry := o.carry, overflow := false }

/-- `F` (R520-R535) of the first operand, the shifter's output and the carry flag. -/
def dpAlu (op : DpOp) (a : Word) (o : ShiftOut) (c : Bool) : AluOut :=
  match op with
  | .and => logical (a &&& o.value) o
  | .eor => logical (a ^^^ o.value) o
  | .sub => addWithCarry a (~~~o.value) true
  | .rsb => addWithCarry o.value (~~~a) true
  | .add => addWithCarry a o.value false
  | .adc => addWithCarry a o.value c
  | .sbc => addWithCarry a (~~~o.value) c
  | .rsc => addWithCarry o.value (~~~a) c
  | .tst => logical (a &&& o.value) o
  | .teq => logical (a ^^^ o.value) o
  | .cmp => addWithCarry a (~~~o.value) true
  | .cmn => addWithCarry a o.value false
  | .orr => logical (a ||| o.value) o
  | .mov => logical o.value o
  | .bic => logical (a &&& ~~~o.value) o
  | .mvn => logical (~~~o.value) o

/-- The flags an S = 1 form leaves (R512): logical functions leave V unchanged. -/
def dpFlags (op : DpOp) (w : Word) (r : AluOut) : Word :=
  if dpArithmetic op then withNZCV w r.value r.carry r.overflow else withNZC w r.value r.carry

/-- `DataProc` (R512). With Rd = 15 and S = 1 the status is restored; with Rd = 15 and S = 0 it is a branch. -/
def dataProc (op : DpOp) (sf : Bool) (rn rd : Reg) (o : ShiftOut) (s : State) : Res Unit :=
  let r := dpAlu op (reg s rn) o (flagC s)
  if dpWrites op && rd == 15#4 then (if sf then exceptionReturn s r.value else branchWritePc s r.value)
  else
    let t := if dpWrites op then setReg s rd r.value else s
    done (if sf then setFlags t (dpFlags op t.cpsr r) else t)

/-- The immediate-shift form (R502-R506). -/
def dpImmShift (op : DpOp) (sf : Bool) (rn rd : Reg) (imm : BitVec 5) (st : BitVec 2) (rm : Reg) (s : State) :
    Res Unit := dataProc op sf rn rd (shiftedReg s st imm rm) s

/-- The register-shift form (R507-R510): R15 anywhere in it is UNPREDICTABLE (R511). -/
def dpRegShift (op : DpOp) (sf : Bool) (rn rd rs : Reg) (st : BitVec 2) (rm : Reg) (s : State) : Res Unit :=
  unpredictableIf (rd == 15#4 || rn == 15#4 || rm == 15#4 || rs == 15#4) .r15RegisterShift
    (dataProc op sf rn rd (regShiftedReg s st rs rm) s)

/-- The immediate form (R501). -/
def dpImm (op : DpOp) (sf : Bool) (rn rd : Reg) (rot : BitVec 4) (imm : BitVec 8) (s : State) : Res Unit :=
  dataProc op sf rn rd (shiftImmediate s rot imm) s

/-- AND, immediate shift (R520). -/
def execAndImmShift (cond : BitVec 4) (sf : Bool) (rn rd : Reg) (imm : BitVec 5) (st : BitVec 2) (rm : Reg)
    (s : State) : Out := runIf cond s (dpImmShift .and sf rn rd imm st rm)

/-- AND, register shift (R520). -/
def execAndRegShift (cond : BitVec 4) (sf : Bool) (rn rd rs : Reg) (st : BitVec 2) (rm : Reg) (s : State) : Out :=
  runIf cond s (dpRegShift .and sf rn rd rs st rm)

/-- AND, immediate (R520). -/
def execAndImm (cond : BitVec 4) (sf : Bool) (rn rd : Reg) (rot : BitVec 4) (imm : BitVec 8) (s : State) : Out :=
  runIf cond s (dpImm .and sf rn rd rot imm)

/-- EOR, immediate shift (R521). -/
def execEorImmShift (cond : BitVec 4) (sf : Bool) (rn rd : Reg) (imm : BitVec 5) (st : BitVec 2) (rm : Reg)
    (s : State) : Out := runIf cond s (dpImmShift .eor sf rn rd imm st rm)

/-- EOR, register shift (R521). -/
def execEorRegShift (cond : BitVec 4) (sf : Bool) (rn rd rs : Reg) (st : BitVec 2) (rm : Reg) (s : State) : Out :=
  runIf cond s (dpRegShift .eor sf rn rd rs st rm)

/-- EOR, immediate (R521). -/
def execEorImm (cond : BitVec 4) (sf : Bool) (rn rd : Reg) (rot : BitVec 4) (imm : BitVec 8) (s : State) : Out :=
  runIf cond s (dpImm .eor sf rn rd rot imm)

/-- SUB, immediate shift (R522). -/
def execSubImmShift (cond : BitVec 4) (sf : Bool) (rn rd : Reg) (imm : BitVec 5) (st : BitVec 2) (rm : Reg)
    (s : State) : Out := runIf cond s (dpImmShift .sub sf rn rd imm st rm)

/-- SUB, register shift (R522). -/
def execSubRegShift (cond : BitVec 4) (sf : Bool) (rn rd rs : Reg) (st : BitVec 2) (rm : Reg) (s : State) : Out :=
  runIf cond s (dpRegShift .sub sf rn rd rs st rm)

/-- SUB, immediate (R522). -/
def execSubImm (cond : BitVec 4) (sf : Bool) (rn rd : Reg) (rot : BitVec 4) (imm : BitVec 8) (s : State) : Out :=
  runIf cond s (dpImm .sub sf rn rd rot imm)

/-- RSB, immediate shift (R523). -/
def execRsbImmShift (cond : BitVec 4) (sf : Bool) (rn rd : Reg) (imm : BitVec 5) (st : BitVec 2) (rm : Reg)
    (s : State) : Out := runIf cond s (dpImmShift .rsb sf rn rd imm st rm)

/-- RSB, register shift (R523). -/
def execRsbRegShift (cond : BitVec 4) (sf : Bool) (rn rd rs : Reg) (st : BitVec 2) (rm : Reg) (s : State) : Out :=
  runIf cond s (dpRegShift .rsb sf rn rd rs st rm)

/-- RSB, immediate (R523). -/
def execRsbImm (cond : BitVec 4) (sf : Bool) (rn rd : Reg) (rot : BitVec 4) (imm : BitVec 8) (s : State) : Out :=
  runIf cond s (dpImm .rsb sf rn rd rot imm)

/-- ADD, immediate shift (R524). -/
def execAddImmShift (cond : BitVec 4) (sf : Bool) (rn rd : Reg) (imm : BitVec 5) (st : BitVec 2) (rm : Reg)
    (s : State) : Out := runIf cond s (dpImmShift .add sf rn rd imm st rm)

/-- ADD, register shift (R524). -/
def execAddRegShift (cond : BitVec 4) (sf : Bool) (rn rd rs : Reg) (st : BitVec 2) (rm : Reg) (s : State) : Out :=
  runIf cond s (dpRegShift .add sf rn rd rs st rm)

/-- ADD, immediate (R524). -/
def execAddImm (cond : BitVec 4) (sf : Bool) (rn rd : Reg) (rot : BitVec 4) (imm : BitVec 8) (s : State) : Out :=
  runIf cond s (dpImm .add sf rn rd rot imm)

/-- ADC, immediate shift (R525). -/
def execAdcImmShift (cond : BitVec 4) (sf : Bool) (rn rd : Reg) (imm : BitVec 5) (st : BitVec 2) (rm : Reg)
    (s : State) : Out := runIf cond s (dpImmShift .adc sf rn rd imm st rm)

/-- ADC, register shift (R525). -/
def execAdcRegShift (cond : BitVec 4) (sf : Bool) (rn rd rs : Reg) (st : BitVec 2) (rm : Reg) (s : State) : Out :=
  runIf cond s (dpRegShift .adc sf rn rd rs st rm)

/-- ADC, immediate (R525). -/
def execAdcImm (cond : BitVec 4) (sf : Bool) (rn rd : Reg) (rot : BitVec 4) (imm : BitVec 8) (s : State) : Out :=
  runIf cond s (dpImm .adc sf rn rd rot imm)

/-- SBC, immediate shift (R526). -/
def execSbcImmShift (cond : BitVec 4) (sf : Bool) (rn rd : Reg) (imm : BitVec 5) (st : BitVec 2) (rm : Reg)
    (s : State) : Out := runIf cond s (dpImmShift .sbc sf rn rd imm st rm)

/-- SBC, register shift (R526). -/
def execSbcRegShift (cond : BitVec 4) (sf : Bool) (rn rd rs : Reg) (st : BitVec 2) (rm : Reg) (s : State) : Out :=
  runIf cond s (dpRegShift .sbc sf rn rd rs st rm)

/-- SBC, immediate (R526). -/
def execSbcImm (cond : BitVec 4) (sf : Bool) (rn rd : Reg) (rot : BitVec 4) (imm : BitVec 8) (s : State) : Out :=
  runIf cond s (dpImm .sbc sf rn rd rot imm)

/-- RSC, immediate shift (R527). -/
def execRscImmShift (cond : BitVec 4) (sf : Bool) (rn rd : Reg) (imm : BitVec 5) (st : BitVec 2) (rm : Reg)
    (s : State) : Out := runIf cond s (dpImmShift .rsc sf rn rd imm st rm)

/-- RSC, register shift (R527). -/
def execRscRegShift (cond : BitVec 4) (sf : Bool) (rn rd rs : Reg) (st : BitVec 2) (rm : Reg) (s : State) : Out :=
  runIf cond s (dpRegShift .rsc sf rn rd rs st rm)

/-- RSC, immediate (R527). -/
def execRscImm (cond : BitVec 4) (sf : Bool) (rn rd : Reg) (rot : BitVec 4) (imm : BitVec 8) (s : State) : Out :=
  runIf cond s (dpImm .rsc sf rn rd rot imm)

/-- TST, immediate shift (R528, R513). -/
def execTstImmShift (cond : BitVec 4) (rn : Reg) (sbz : BitVec 4) (imm : BitVec 5) (st : BitVec 2) (rm : Reg)
    (s : State) : Out := runIf cond s fun s => shouldBe (sbz == 0#4) (dpImmShift .tst true rn 0#4 imm st rm s)

/-- TST, register shift (R528, R513). -/
def execTstRegShift (cond : BitVec 4) (rn : Reg) (sbz : BitVec 4) (rs : Reg) (st : BitVec 2) (rm : Reg)
    (s : State) : Out := runIf cond s fun s => shouldBe (sbz == 0#4) (dpRegShift .tst true rn 0#4 rs st rm s)

/-- TST, immediate (R528, R513). -/
def execTstImm (cond : BitVec 4) (rn : Reg) (sbz rot : BitVec 4) (imm : BitVec 8) (s : State) : Out :=
  runIf cond s fun s => shouldBe (sbz == 0#4) (dpImm .tst true rn 0#4 rot imm s)

/-- TEQ, immediate shift (R529, R513). -/
def execTeqImmShift (cond : BitVec 4) (rn : Reg) (sbz : BitVec 4) (imm : BitVec 5) (st : BitVec 2) (rm : Reg)
    (s : State) : Out := runIf cond s fun s => shouldBe (sbz == 0#4) (dpImmShift .teq true rn 0#4 imm st rm s)

/-- TEQ, register shift (R529, R513). -/
def execTeqRegShift (cond : BitVec 4) (rn : Reg) (sbz : BitVec 4) (rs : Reg) (st : BitVec 2) (rm : Reg)
    (s : State) : Out := runIf cond s fun s => shouldBe (sbz == 0#4) (dpRegShift .teq true rn 0#4 rs st rm s)

/-- TEQ, immediate (R529, R513). -/
def execTeqImm (cond : BitVec 4) (rn : Reg) (sbz rot : BitVec 4) (imm : BitVec 8) (s : State) : Out :=
  runIf cond s fun s => shouldBe (sbz == 0#4) (dpImm .teq true rn 0#4 rot imm s)

/-- CMP, immediate shift (R530, R513). -/
def execCmpImmShift (cond : BitVec 4) (rn : Reg) (sbz : BitVec 4) (imm : BitVec 5) (st : BitVec 2) (rm : Reg)
    (s : State) : Out := runIf cond s fun s => shouldBe (sbz == 0#4) (dpImmShift .cmp true rn 0#4 imm st rm s)

/-- CMP, register shift (R530, R513). -/
def execCmpRegShift (cond : BitVec 4) (rn : Reg) (sbz : BitVec 4) (rs : Reg) (st : BitVec 2) (rm : Reg)
    (s : State) : Out := runIf cond s fun s => shouldBe (sbz == 0#4) (dpRegShift .cmp true rn 0#4 rs st rm s)

/-- CMP, immediate (R530, R513). -/
def execCmpImm (cond : BitVec 4) (rn : Reg) (sbz rot : BitVec 4) (imm : BitVec 8) (s : State) : Out :=
  runIf cond s fun s => shouldBe (sbz == 0#4) (dpImm .cmp true rn 0#4 rot imm s)

/-- CMN, immediate shift (R531, R513). -/
def execCmnImmShift (cond : BitVec 4) (rn : Reg) (sbz : BitVec 4) (imm : BitVec 5) (st : BitVec 2) (rm : Reg)
    (s : State) : Out := runIf cond s fun s => shouldBe (sbz == 0#4) (dpImmShift .cmn true rn 0#4 imm st rm s)

/-- CMN, register shift (R531, R513). -/
def execCmnRegShift (cond : BitVec 4) (rn : Reg) (sbz : BitVec 4) (rs : Reg) (st : BitVec 2) (rm : Reg)
    (s : State) : Out := runIf cond s fun s => shouldBe (sbz == 0#4) (dpRegShift .cmn true rn 0#4 rs st rm s)

/-- CMN, immediate (R531, R513). -/
def execCmnImm (cond : BitVec 4) (rn : Reg) (sbz rot : BitVec 4) (imm : BitVec 8) (s : State) : Out :=
  runIf cond s fun s => shouldBe (sbz == 0#4) (dpImm .cmn true rn 0#4 rot imm s)

/-- ORR, immediate shift (R532). -/
def execOrrImmShift (cond : BitVec 4) (sf : Bool) (rn rd : Reg) (imm : BitVec 5) (st : BitVec 2) (rm : Reg)
    (s : State) : Out := runIf cond s (dpImmShift .orr sf rn rd imm st rm)

/-- ORR, register shift (R532). -/
def execOrrRegShift (cond : BitVec 4) (sf : Bool) (rn rd rs : Reg) (st : BitVec 2) (rm : Reg) (s : State) : Out :=
  runIf cond s (dpRegShift .orr sf rn rd rs st rm)

/-- ORR, immediate (R532). -/
def execOrrImm (cond : BitVec 4) (sf : Bool) (rn rd : Reg) (rot : BitVec 4) (imm : BitVec 8) (s : State) : Out :=
  runIf cond s (dpImm .orr sf rn rd rot imm)

/-- MOV, immediate shift (R533, R513). -/
def execMovImmShift (cond : BitVec 4) (sf : Bool) (sbz : BitVec 4) (rd : Reg) (imm : BitVec 5) (st : BitVec 2)
    (rm : Reg) (s : State) : Out :=
  runIf cond s fun s => shouldBe (sbz == 0#4) (dpImmShift .mov sf 0#4 rd imm st rm s)

/-- MOV, register shift (R533, R513). -/
def execMovRegShift (cond : BitVec 4) (sf : Bool) (sbz : BitVec 4) (rd rs : Reg) (st : BitVec 2) (rm : Reg)
    (s : State) : Out := runIf cond s fun s => shouldBe (sbz == 0#4) (dpRegShift .mov sf 0#4 rd rs st rm s)

/-- MOV, immediate (R533, R513). -/
def execMovImm (cond : BitVec 4) (sf : Bool) (sbz : BitVec 4) (rd : Reg) (rot : BitVec 4) (imm : BitVec 8)
    (s : State) : Out := runIf cond s fun s => shouldBe (sbz == 0#4) (dpImm .mov sf 0#4 rd rot imm s)

/-- BIC, immediate shift (R534). -/
def execBicImmShift (cond : BitVec 4) (sf : Bool) (rn rd : Reg) (imm : BitVec 5) (st : BitVec 2) (rm : Reg)
    (s : State) : Out := runIf cond s (dpImmShift .bic sf rn rd imm st rm)

/-- BIC, register shift (R534). -/
def execBicRegShift (cond : BitVec 4) (sf : Bool) (rn rd rs : Reg) (st : BitVec 2) (rm : Reg) (s : State) : Out :=
  runIf cond s (dpRegShift .bic sf rn rd rs st rm)

/-- BIC, immediate (R534). -/
def execBicImm (cond : BitVec 4) (sf : Bool) (rn rd : Reg) (rot : BitVec 4) (imm : BitVec 8) (s : State) : Out :=
  runIf cond s (dpImm .bic sf rn rd rot imm)

/-- MVN, immediate shift (R535, R513). -/
def execMvnImmShift (cond : BitVec 4) (sf : Bool) (sbz : BitVec 4) (rd : Reg) (imm : BitVec 5) (st : BitVec 2)
    (rm : Reg) (s : State) : Out :=
  runIf cond s fun s => shouldBe (sbz == 0#4) (dpImmShift .mvn sf 0#4 rd imm st rm s)

/-- MVN, register shift (R535, R513). -/
def execMvnRegShift (cond : BitVec 4) (sf : Bool) (sbz : BitVec 4) (rd rs : Reg) (st : BitVec 2) (rm : Reg)
    (s : State) : Out := runIf cond s fun s => shouldBe (sbz == 0#4) (dpRegShift .mvn sf 0#4 rd rs st rm s)

/-- MVN, immediate (R535, R513). -/
def execMvnImm (cond : BitVec 4) (sf : Bool) (sbz : BitVec 4) (rd : Reg) (rot : BitVec 4) (imm : BitVec 8)
    (s : State) : Out := runIf cond s fun s => shouldBe (sbz == 0#4) (dpImm .mvn sf 0#4 rd rot imm s)

end Sys2Proof.Machine
end

