-- ==== Sys2Proof/Machine/LoadStore.lean ====
section
/-! DEFINITION. ARM loads and stores of words, bytes, halfwords and doublewords: spec/43_arm_loadstore.md R650-R671.
Each definition of the first part is what one instruction does with the address its addressing mode gives. -/

namespace Sys2Proof.Machine

/-- `ROR(Load(a AND NOT 3, 4), 8 × a[1:0])` (R208, R652). -/
def loadRotated (s : State) (a : Word) : Res Word :=
  (load s (alignWord a) .word).bind fun v t => .ok (ror v (8 * (a.extractLsb' 0 2).toNat)) t

/-- LDR (R652): a load to PC interworks. -/
def loadWord (s : State) (rn rd : Reg) (x : Addr) : Res Unit :=
  (loadRotated s x.address).bind fun v t =>
    if rd = 15#4 then
      unpredictableIf (x.address.extractLsb' 0 2 != 0b00#2) .misalignedLoadPc
        (loadWritePc (writeback t x.wb rn x.moved) v)
    else done (writeback (setReg t rd v) x.wb rn x.moved)

/-- A load of a byte or halfword, extended by `ext` (R653, R666-R668). -/
def loadExtended (n : Width) (ext : Word → Word) (s : State) (rn rd : Reg) (x : Addr) : Res Unit :=
  (load s x.address n).bind fun v t => done (writeback (setReg t rd (ext v)) x.wb rn x.moved)

/-- STR (R654): the aligned word is written, unrotated. -/
def storeWord (s : State) (rn rd : Reg) (x : Addr) : Res Unit :=
  (store s (alignWord x.address) .word (storedReg s rd)).bind fun _ t => done (writeback t x.wb rn x.moved)

/-- STRB and STRH (R655, R669): the low byte or halfword is written. -/
def storeNarrow (n : Width) (s : State) (rn rd : Reg) (x : Addr) : Res Unit :=
  (store s x.address n (reg s rd)).bind fun _ t => done (writeback t x.wb rn x.moved)

/-- LDRB (R653). -/
def loadByte (s : State) (rn rd : Reg) (x : Addr) : Res Unit := loadExtended .byte (fun v => v) s rn rd x

/-- A halfword address is even (R208), or the access faults. -/
def halfAligned (x : Addr) (r : Res Unit) : Res Unit := unpredictableIf (x.address.getLsbD 0) .misalignedHalf r

/-- LDRH (R666). -/
def loadHalf (s : State) (rn rd : Reg) (x : Addr) : Res Unit :=
  halfAligned x (loadExtended .half (fun v => v) s rn rd x)

/-- LDRSB (R667). -/
def loadSignedByte (s : State) (rn rd : Reg) (x : Addr) : Res Unit := loadExtended .byte sextByte s rn rd x

/-- LDRSH (R668). -/
def loadSignedHalf (s : State) (rn rd : Reg) (x : Addr) : Res Unit :=
  halfAligned x (loadExtended .half sextHalf s rn rd x)

/-- STRH (R669). -/
def storeHalf (s : State) (rn rd : Reg) (x : Addr) : Res Unit := halfAligned x (storeNarrow .half s rn rd x)

/-- The register pair of LDRD and STRD (R670, R671): Rd even and not 14. -/
def pairChecked (rd : Reg) (r : Res Unit) : Res Unit :=
  unpredictableIf (rd.getLsbD 0 || rd == 14#4) .doublePair r

/-- A doubleword address is a multiple of 8 (R208), or the access faults. -/
def doubleAligned (x : Addr) (r : Res Unit) : Res Unit :=
  unpredictableIf (x.address.extractLsb' 0 3 != 0#3) .misalignedDouble r

/-- LDRD (R670), low word first; `rm` is the offset register of the register form. -/
def loadDouble (rm : Option Reg) (s : State) (rn rd : Reg) (x : Addr) : Res Unit :=
  unpredictableIf (x.wb && (rn == rd || rn == rd + 1#4)) .doubleWritebackOverlap <|
    unpredictableIf (rm == some rd || rm == some (rd + 1#4)) .doubleOffsetOverlap <|
      doubleAligned x <|
        (load s x.address .word).bind fun v t =>
          (load (setReg t rd v) (x.address + 4#32) .word).bind fun v' t' =>
            done (writeback (setReg t' (rd + 1#4) v') x.wb rn x.moved)

/-- STRD (R671), low word first. -/
def storeDouble (s : State) (rn rd : Reg) (x : Addr) : Res Unit :=
  doubleAligned x <|
    (store s x.address .word (reg s rd)).bind fun _ t =>
      (store t (x.address + 4#32) .word (reg t (rd + 1#4))).bind fun _ t' =>
        done (writeback t' x.wb rn x.moved)

/-! ### The instructions of addressing mode 2 (R651-R659) -/

/-- LDR, immediate pre-indexed (R652). -/
def execLdrImmPre (cond : BitVec 4) (u w : Bool) (rn rd : Reg) (imm : BitVec 12) (s : State) : Out :=
  runIf cond s fun s => (mode2Imm s true u w rn rd imm).bind fun x t => loadWord t rn rd x

/-- LDR, immediate post-indexed (R652). -/
def execLdrImmPost (cond : BitVec 4) (u : Bool) (rn rd : Reg) (imm : BitVec 12) (s : State) : Out :=
  runIf cond s fun s => (mode2Imm s false u false rn rd imm).bind fun x t => loadWord t rn rd x

/-- LDR, register pre-indexed (R652). -/
def execLdrRegPre (cond : BitVec 4) (u w : Bool) (rn rd : Reg) (imm : BitVec 5) (st : BitVec 2) (rm : Reg)
    (s : State) : Out :=
  runIf cond s fun s => (mode2Reg s true u w rn rd imm st rm).bind fun x t => loadWord t rn rd x

/-- LDR, register post-indexed (R652). -/
def execLdrRegPost (cond : BitVec 4) (u : Bool) (rn rd : Reg) (imm : BitVec 5) (st : BitVec 2) (rm : Reg)
    (s : State) : Out :=
  runIf cond s fun s => (mode2Reg s false u false rn rd imm st rm).bind fun x t => loadWord t rn rd x

/-- LDRB, immediate pre-indexed (R653). -/
def execLdrbImmPre (cond : BitVec 4) (u w : Bool) (rn rd : Reg) (imm : BitVec 12) (s : State) : Out :=
  runIf cond s fun s => unpredictableIf (rd == 15#4) .loadBytePc <|
    (mode2Imm s true u w rn rd imm).bind fun x t => loadByte t rn rd x

/-- LDRB, immediate post-indexed (R653). -/
def execLdrbImmPost (cond : BitVec 4) (u : Bool) (rn rd : Reg) (imm : BitVec 12) (s : State) : Out :=
  runIf cond s fun s => unpredictableIf (rd == 15#4) .loadBytePc <|
    (mode2Imm s false u false rn rd imm).bind fun x t => loadByte t rn rd x

/-- LDRB, register pre-indexed (R653). -/
def execLdrbRegPre (cond : BitVec 4) (u w : Bool) (rn rd : Reg) (imm : BitVec 5) (st : BitVec 2) (rm : Reg)
    (s : State) : Out :=
  runIf cond s fun s => unpredictableIf (rd == 15#4) .loadBytePc <|
    (mode2Reg s true u w rn rd imm st rm).bind fun x t => loadByte t rn rd x

/-- LDRB, register post-indexed (R653). -/
def execLdrbRegPost (cond : BitVec 4) (u : Bool) (rn rd : Reg) (imm : BitVec 5) (st : BitVec 2) (rm : Reg)
    (s : State) : Out :=
  runIf cond s fun s => unpredictableIf (rd == 15#4) .loadBytePc <|
    (mode2Reg s false u false rn rd imm st rm).bind fun x t => loadByte t rn rd x

/-- STR, immediate pre-indexed (R654). -/
def execStrImmPre (cond : BitVec 4) (u w : Bool) (rn rd : Reg) (imm : BitVec 12) (s : State) : Out :=
  runIf cond s fun s => (mode2Imm s true u w rn rd imm).bind fun x t => storeWord t rn rd x

/-- STR, immediate post-indexed (R654). -/
def execStrImmPost (cond : BitVec 4) (u : Bool) (rn rd : Reg) (imm : BitVec 12) (s : State) : Out :=
  runIf cond s fun s => (mode2Imm s false u false rn rd imm).bind fun x t => storeWord t rn rd x

/-- STR, register pre-indexed (R654). -/
def execStrRegPre (cond : BitVec 4) (u w : Bool) (rn rd : Reg) (imm : BitVec 5) (st : BitVec 2) (rm : Reg)
    (s : State) : Out :=
  runIf cond s fun s => (mode2Reg s true u w rn rd imm st rm).bind fun x t => storeWord t rn rd x

/-- STR, register post-indexed (R654). -/
def execStrRegPost (cond : BitVec 4) (u : Bool) (rn rd : Reg) (imm : BitVec 5) (st : BitVec 2) (rm : Reg)
    (s : State) : Out :=
  runIf cond s fun s => (mode2Reg s false u false rn rd imm st rm).bind fun x t => storeWord t rn rd x

/-- STRB, immediate pre-indexed (R655). -/
def execStrbImmPre (cond : BitVec 4) (u w : Bool) (rn rd : Reg) (imm : BitVec 12) (s : State) : Out :=
  runIf cond s fun s => unpredictableIf (rd == 15#4) .storeBytePc <|
    (mode2Imm s true u w rn rd imm).bind fun x t => storeNarrow .byte t rn rd x

/-- STRB, immediate post-indexed (R655). -/
def execStrbImmPost (cond : BitVec 4) (u : Bool) (rn rd : Reg) (imm : BitVec 12) (s : State) : Out :=
  runIf cond s fun s => unpredictableIf (rd == 15#4) .storeBytePc <|
    (mode2Imm s false u false rn rd imm).bind fun x t => storeNarrow .byte t rn rd x

/-- STRB, register pre-indexed (R655). -/
def execStrbRegPre (cond : BitVec 4) (u w : Bool) (rn rd : Reg) (imm : BitVec 5) (st : BitVec 2) (rm : Reg)
    (s : State) : Out :=
  runIf cond s fun s => unpredictableIf (rd == 15#4) .storeBytePc <|
    (mode2Reg s true u w rn rd imm st rm).bind fun x t => storeNarrow .byte t rn rd x

/-- STRB, register post-indexed (R655). -/
def execStrbRegPost (cond : BitVec 4) (u : Bool) (rn rd : Reg) (imm : BitVec 5) (st : BitVec 2) (rm : Reg)
    (s : State) : Out :=
  runIf cond s fun s => unpredictableIf (rd == 15#4) .storeBytePc <|
    (mode2Reg s false u false rn rd imm st rm).bind fun x t => storeNarrow .byte t rn rd x

/-- LDRT, immediate (R656): post-indexed, no access check exists (D46). -/
def execLdrtImm (cond : BitVec 4) (u : Bool) (rn rd : Reg) (imm : BitVec 12) (s : State) : Out :=
  runIf cond s fun s => unpredictableIf (rd == 15#4) .loadTranslatedPc <|
    (mode2Imm s false u true rn rd imm).bind fun x t => loadWord t rn rd x

/-- LDRT, register (R656): post-indexed, no access check exists (D46). -/
def execLdrtReg (cond : BitVec 4) (u : Bool) (rn rd : Reg) (imm : BitVec 5) (st : BitVec 2) (rm : Reg)
    (s : State) : Out :=
  runIf cond s fun s => unpredictableIf (rd == 15#4) .loadTranslatedPc <|
    (mode2Reg s false u true rn rd imm st rm).bind fun x t => loadWord t rn rd x

/-- LDRBT, immediate (R657): post-indexed, no access check exists (D46). -/
def execLdrbtImm (cond : BitVec 4) (u : Bool) (rn rd : Reg) (imm : BitVec 12) (s : State) : Out :=
  runIf cond s fun s => unpredictableIf (rd == 15#4) .loadBytePc <|
    (mode2Imm s false u true rn rd imm).bind fun x t => loadByte t rn rd x

/-- LDRBT, register (R657): post-indexed, no access check exists (D46). -/
def execLdrbtReg (cond : BitVec 4) (u : Bool) (rn rd : Reg) (imm : BitVec 5) (st : BitVec 2) (rm : Reg)
    (s : State) : Out :=
  runIf cond s fun s => unpredictableIf (rd == 15#4) .loadBytePc <|
    (mode2Reg s false u true rn rd imm st rm).bind fun x t => loadByte t rn rd x

/-- STRT, immediate (R658): post-indexed, no access check exists (D46). -/
def execStrtImm (cond : BitVec 4) (u : Bool) (rn rd : Reg) (imm : BitVec 12) (s : State) : Out :=
  runIf cond s fun s => (mode2Imm s false u true rn rd imm).bind fun x t => storeWord t rn rd x

/-- STRT, register (R658): post-indexed, no access check exists (D46). -/
def execStrtReg (cond : BitVec 4) (u : Bool) (rn rd : Reg) (imm : BitVec 5) (st : BitVec 2) (rm : Reg)
    (s : State) : Out :=
  runIf cond s fun s => (mode2Reg s false u true rn rd imm st rm).bind fun x t => storeWord t rn rd x

/-- STRBT, immediate (R659): post-indexed, no access check exists (D46). -/
def execStrbtImm (cond : BitVec 4) (u : Bool) (rn rd : Reg) (imm : BitVec 12) (s : State) : Out :=
  runIf cond s fun s => unpredictableIf (rd == 15#4) .storeBytePc <|
    (mode2Imm s false u true rn rd imm).bind fun x t => storeNarrow .byte t rn rd x

/-- STRBT, register (R659): post-indexed, no access check exists (D46). -/
def execStrbtReg (cond : BitVec 4) (u : Bool) (rn rd : Reg) (imm : BitVec 5) (st : BitVec 2) (rm : Reg)
    (s : State) : Out :=
  runIf cond s fun s => unpredictableIf (rd == 15#4) .storeBytePc <|
    (mode2Reg s false u true rn rd imm st rm).bind fun x t => storeNarrow .byte t rn rd x

/-! ### The instructions of addressing mode 3 (R665-R671) -/

/-- STRH, immediate (R669). -/
def execStrhImm (cond : BitVec 4) (p u w : Bool) (rn rd : Reg) (immHi immLo : BitVec 4) (s : State) : Out :=
  runIf cond s fun s => unpredictableIf (rd == 15#4) .storeHalfPc <|
    (mode3Imm s p u w rn rd immHi immLo).bind fun x t => storeHalf t rn rd x

/-- STRH, register (R669). -/
def execStrhReg (cond : BitVec 4) (p u w : Bool) (rn rd : Reg) (sbz : BitVec 4) (rm : Reg) (s : State) : Out :=
  runIf cond s fun s => unpredictableIf (rd == 15#4) .storeHalfPc <|
    (mode3Reg s p u w rn rd sbz rm).bind fun x t => storeHalf t rn rd x

/-- LDRD, immediate (R670). -/
def execLdrdImm (cond : BitVec 4) (p u w : Bool) (rn rd : Reg) (immHi immLo : BitVec 4) (s : State) : Out :=
  runIf cond s fun s => pairChecked rd <|
    (mode3Imm s p u w rn rd immHi immLo).bind fun x t => loadDouble none t rn rd x

/-- LDRD, register (R670). -/
def execLdrdReg (cond : BitVec 4) (p u w : Bool) (rn rd : Reg) (sbz : BitVec 4) (rm : Reg) (s : State) : Out :=
  runIf cond s fun s => pairChecked rd <|
    (mode3Reg s p u w rn rd sbz rm).bind fun x t => loadDouble (some rm) t rn rd x

/-- STRD, immediate (R671). -/
def execStrdImm (cond : BitVec 4) (p u w : Bool) (rn rd : Reg) (immHi immLo : BitVec 4) (s : State) : Out :=
  runIf cond s fun s => pairChecked rd <|
    (mode3Imm s p u w rn rd immHi immLo).bind fun x t => storeDouble t rn rd x

/-- STRD, register (R671). -/
def execStrdReg (cond : BitVec 4) (p u w : Bool) (rn rd : Reg) (sbz : BitVec 4) (rm : Reg) (s : State) : Out :=
  runIf cond s fun s => pairChecked rd <|
    (mode3Reg s p u w rn rd sbz rm).bind fun x t => storeDouble t rn rd x

/-- LDRH, immediate (R666). -/
def execLdrhImm (cond : BitVec 4) (p u w : Bool) (rn rd : Reg) (immHi immLo : BitVec 4) (s : State) : Out :=
  runIf cond s fun s => unpredictableIf (rd == 15#4) .loadHalfPc <|
    (mode3Imm s p u w rn rd immHi immLo).bind fun x t => loadHalf t rn rd x

/-- LDRH, register (R666). -/
def execLdrhReg (cond : BitVec 4) (p u w : Bool) (rn rd : Reg) (sbz : BitVec 4) (rm : Reg) (s : State) : Out :=
  runIf cond s fun s => unpredictableIf (rd == 15#4) .loadHalfPc <|
    (mode3Reg s p u w rn rd sbz rm).bind fun x t => loadHalf t rn rd x

/-- LDRSB, immediate (R667). -/
def execLdrsbImm (cond : BitVec 4) (p u w : Bool) (rn rd : Reg) (immHi immLo : BitVec 4) (s : State) : Out :=
  runIf cond s fun s => unpredictableIf (rd == 15#4) .loadHalfPc <|
    (mode3Imm s p u w rn rd immHi immLo).bind fun x t => loadSignedByte t rn rd x

/-- LDRSB, register (R667). -/
def execLdrsbReg (cond : BitVec 4) (p u w : Bool) (rn rd : Reg) (sbz : BitVec 4) (rm : Reg) (s : State) : Out :=
  runIf cond s fun s => unpredictableIf (rd == 15#4) .loadHalfPc <|
    (mode3Reg s p u w rn rd sbz rm).bind fun x t => loadSignedByte t rn rd x

/-- LDRSH, immediate (R668). -/
def execLdrshImm (cond : BitVec 4) (p u w : Bool) (rn rd : Reg) (immHi immLo : BitVec 4) (s : State) : Out :=
  runIf cond s fun s => unpredictableIf (rd == 15#4) .loadHalfPc <|
    (mode3Imm s p u w rn rd immHi immLo).bind fun x t => loadSignedHalf t rn rd x

/-- LDRSH, register (R668). -/
def execLdrshReg (cond : BitVec 4) (p u w : Bool) (rn rd : Reg) (sbz : BitVec 4) (rm : Reg) (s : State) : Out :=
  runIf cond s fun s => unpredictableIf (rd == 15#4) .loadHalfPc <|
    (mode3Reg s p u w rn rd sbz rm).bind fun x t => loadSignedHalf t rn rd x

end Sys2Proof.Machine
end

