-- ==== Sys2Proof/Machine/Multiple.lean ====
section
/-! DEFINITION. ARM load and store multiple, and swap: spec/43_arm_loadstore.md R680-R701. -/

namespace Sys2Proof.Machine

/-- Registers loaded in order at ascending addresses, each written by `put` (R680); the next address is answered. -/
def loadEach (put : State → Reg → Word → State) : List Nat → Word → State → Res Word
  | [], a, s => .ok a s
  | i :: r, a, s =>
    (load s a .word).bind fun v t => loadEach put r (a + 4#32) (put t (BitVec.ofNat 4 i) v)

/-- Registers stored in order at ascending addresses, each read by `get` (R680). -/
def storeEach (get : State → Reg → Word) : List Nat → Word → State → Res Word
  | [], a, s => .ok a s
  | i :: r, a, s =>
    (store s a .word (get s (BitVec.ofNat 4 i))).bind fun _ t => storeEach get r (a + 4#32) t

/-- The value stored for a register of the user bank, R15 as the stored program counter (R685). -/
def storedUserReg (s : State) (i : Reg) : Word := if i = 15#4 then storedReg s i else userReg s i

/-- The register list of the forms that leave R15 out or in (R682, R683). -/
def fullList (pc : Bool) (list : BitVec 15) : BitVec 16 := BitVec.ofBool pc ++ list

/-- LDM(1) (R681): a loaded PC interworks. -/
def execLdm1 (cond : BitVec 4) (p u w : Bool) (rn : Reg) (list : BitVec 16) (s : State) : Out :=
  runIf cond s fun s =>
    (mode4 s p u rn list).bind fun x s =>
      unpredictableIf (w && list.getLsbD rn.toNat) .loadListHasBase <|
        (loadEach setReg (listed (list.setWidth 15)) x.1 s).bind fun a t =>
          if list.getLsbD 15 then
            (load t a .word).bind fun v t => loadWritePc (writeback t w rn x.2) v
          else done (writeback t w rn x.2)

/-- LDM(2) (R682): the user-mode registers. -/
def execLdm2 (cond : BitVec 4) (p u w : Bool) (rn : Reg) (list : BitVec 15) (s : State) : Out :=
  runIf cond s fun s =>
    (mode4 s p u rn (fullList false list)).bind fun x s =>
      unpredictableIf w .userBankWriteback <|
        unpredictableIf (isUser s || curMode s == 0x1F#5) .userBankMode <|
          (loadEach setUserReg (listed list) x.1 s).bind fun _ t => done t

/-- LDM(3) (R683): the registers of the mode before the restore, then the return from an exception. -/
def execLdm3 (cond : BitVec 4) (p u w : Bool) (rn : Reg) (list : BitVec 15) (s : State) : Out :=
  runIf cond s fun s =>
    (mode4 s p u rn (fullList true list)).bind fun x s =>
      unpredictableIf (w && (fullList true list).getLsbD rn.toNat) .loadListHasBase <|
        (loadEach setReg (listed list) x.1 s).bind fun a t =>
          (load t a .word).bind fun v t => exceptionReturn (writeback t w rn x.2) v

/-- STM(1) (R684): a base that is the lowest listed register stores its original value. -/
def execStm1 (cond : BitVec 4) (p u w : Bool) (rn : Reg) (list : BitVec 16) (s : State) : Out :=
  runIf cond s fun s =>
    (mode4 s p u rn list).bind fun x s =>
      unpredictableIf (w && list.getLsbD rn.toNat && !isLowest list rn.toNat) .storeBaseNotLowest <|
        (storeEach storedReg (listed list) x.1 s).bind fun _ t => done (writeback t w rn x.2)

/-- STM(2) (R685): the user-mode registers. -/
def execStm2 (cond : BitVec 4) (p u w : Bool) (rn : Reg) (list : BitVec 16) (s : State) : Out :=
  runIf cond s fun s =>
    (mode4 s p u rn list).bind fun x s =>
      unpredictableIf w .userBankWriteback <|
        unpredictableIf (isUser s || curMode s == 0x1F#5) .userBankMode <|
          (storeEach storedUserReg (listed list) x.1 s).bind fun _ t => done t

/-- The checks of SWP and SWPB (R700). -/
def swapChecks (rn rd : Reg) (sbz : BitVec 4) (rm : Reg) (r : Res Unit) : Res Unit :=
  shouldBe (sbz == 0#4) <|
    unpredictableIf (rd == 15#4 || rm == 15#4 || rn == 15#4) .swapR15 <|
      unpredictableIf (rn == rm || rn == rd) .swapBase r

/-- SWP (R700): the read, then the write, then the register. -/
def execSwp (cond : BitVec 4) (rn rd : Reg) (sbz : BitVec 4) (rm : Reg) (s : State) : Out :=
  runIf cond s fun s =>
    swapChecks rn rd sbz rm <|
      (loadRotated s (reg s rn)).bind fun v t =>
        (store t (alignWord (reg s rn)) .word (reg s rm)).bind fun _ t => done (setReg t rd v)

/-- SWPB (R701). -/
def execSwpb (cond : BitVec 4) (rn rd : Reg) (sbz : BitVec 4) (rm : Reg) (s : State) : Out :=
  runIf cond s fun s =>
    swapChecks rn rd sbz rm <|
      (load s (reg s rn) .byte).bind fun v t =>
        (store t (reg s rn) .byte (reg s rm)).bind fun _ t => done (setReg t rd v)

end Sys2Proof.Machine
end

