-- ==== Sys2Proof/Machine/Multiply.lean ====
section
/-! DEFINITION. ARM multiplies: spec/42_arm_multiply.md R600-R614. -/

namespace Sys2Proof.Machine

/-- A 32-bit product written, with N and Z where S = 1 (R601). -/
def product32 (s : State) (sf : Bool) (rd : Reg) (r : Word) : Res Unit :=
  let t := setReg s rd r
  done (if sf then setFlags t (withNZ t.cpsr r) else t)

/-- A 64-bit product written low word first, with N and Z where S = 1 (R603). -/
def product64 (s : State) (sf : Bool) (rdHi rdLo : Reg) (p : BitVec 64) : Res Unit :=
  let t := setReg (setReg s rdLo (p.extractLsb' 0 32)) rdHi (p.extractLsb' 32 32)
  done (if sf then setFlags t (withNZ64 t.cpsr p) else t)

/-- `x[RdHi] : x[RdLo]` (R604). -/
def accumulator (s : State) (rdHi rdLo : Reg) : BitVec 64 := reg s rdHi ++ reg s rdLo

/-- The exact unsigned product modulo 2^64 (R603). -/
def unsignedProduct (a b : Word) : BitVec 64 := BitVec.ofNat 64 (a.toNat * b.toNat)

/-- The exact signed product modulo 2^64 (R605). -/
def signedProduct (a b : Word) : BitVec 64 := BitVec.ofInt 64 (a.toInt * b.toInt)

/-- `LongMulChecks()` (R603). -/
def longChecks (rdHi rdLo rs rm : Reg) (r : Res Unit) : Res Unit :=
  unpredictableIf (rdHi == 15#4 || rdLo == 15#4 || rm == 15#4 || rs == 15#4) .multiplyR15 <|
    unpredictableIf (rdHi == rdLo) .longSamePair <|
      unpredictableIf (rdHi == rm || rdLo == rm) .longPairRm r

/-- MUL (R601). -/
def execMul (cond : BitVec 4) (sf : Bool) (rd : Reg) (sbz : BitVec 4) (rs rm : Reg) (s : State) : Out :=
  runIf cond s fun s =>
    shouldBe (sbz == 0#4) <|
      unpredictableIf (rd == 15#4 || rm == 15#4 || rs == 15#4) .multiplyR15 <|
        unpredictableIf (rd == rm) .multiplyRdRm (product32 s sf rd (reg s rm * reg s rs))

/-- MLA (R602). -/
def execMla (cond : BitVec 4) (sf : Bool) (rd rn rs rm : Reg) (s : State) : Out :=
  runIf cond s fun s =>
    unpredictableIf (rd == 15#4 || rm == 15#4 || rs == 15#4 || rn == 15#4) .multiplyR15 <|
      unpredictableIf (rd == rm) .multiplyRdRm (product32 s sf rd (reg s rm * reg s rs + reg s rn))

/-- UMULL (R603). -/
def execUmull (cond : BitVec 4) (sf : Bool) (rdHi rdLo rs rm : Reg) (s : State) : Out :=
  runIf cond s fun s =>
    longChecks rdHi rdLo rs rm (product64 s sf rdHi rdLo (unsignedProduct (reg s rm) (reg s rs)))

/-- UMLAL (R604). -/
def execUmlal (cond : BitVec 4) (sf : Bool) (rdHi rdLo rs rm : Reg) (s : State) : Out :=
  runIf cond s fun s =>
    longChecks rdHi rdLo rs rm
      (product64 s sf rdHi rdLo (unsignedProduct (reg s rm) (reg s rs) + accumulator s rdHi rdLo))

/-- SMULL (R605). -/
def execSmull (cond : BitVec 4) (sf : Bool) (rdHi rdLo rs rm : Reg) (s : State) : Out :=
  runIf cond s fun s =>
    longChecks rdHi rdLo rs rm (product64 s sf rdHi rdLo (signedProduct (reg s rm) (reg s rs)))

/-- SMLAL (R606). -/
def execSmlal (cond : BitVec 4) (sf : Bool) (rdHi rdLo rs rm : Reg) (s : State) : Out :=
  runIf cond s fun s =>
    longChecks rdHi rdLo rs rm
      (product64 s sf rdHi rdLo (signedProduct (reg s rm) (reg s rs) + accumulator s rdHi rdLo))

/-- A 32-bit accumulation written, with Q set where it overflows (R610, R611). -/
def accumulate32 (s : State) (rd : Reg) (i : Int) : Res Unit :=
  let t := setReg s rd (BitVec.ofInt 32 i)
  done (setFlags t (withQ t.cpsr (overflows32 i)))

/-- `signed(Half(x[Rm], x)) × signed(Half(x[Rs], y))` (R610). -/
def halfProduct (s : State) (rm : Reg) (x : Bool) (rs : Reg) (y : Bool) : Int :=
  signedHalf (reg s rm) x * signedHalf (reg s rs) y

/-- `signed(x[Rm]) × signed(Half(x[Rs], y))`, bits 47:16 (R611). -/
def wideProduct (s : State) (rm rs : Reg) (y : Bool) : Word :=
  (BitVec.ofInt 48 ((reg s rm).toInt * signedHalf (reg s rs) y)).extractLsb' 16 32

/-- SMLA<x><y> (R610). -/
def execSmlaXY (cond : BitVec 4) (rd rn rs : Reg) (y x : Bool) (rm : Reg) (s : State) : Out :=
  runIf cond s fun s =>
    unpredictableIf (rd == 15#4 || rm == 15#4 || rs == 15#4 || rn == 15#4) .multiplyR15
      (accumulate32 s rd (halfProduct s rm x rs y + (reg s rn).toInt))

/-- SMLAW<y> (R611). -/
def execSmlawY (cond : BitVec 4) (rd rn rs : Reg) (y : Bool) (rm : Reg) (s : State) : Out :=
  runIf cond s fun s =>
    unpredictableIf (rd == 15#4 || rm == 15#4 || rs == 15#4 || rn == 15#4) .multiplyR15
      (accumulate32 s rd ((wideProduct s rm rs y).toInt + (reg s rn).toInt))

/-- SMULW<y> (R612). -/
def execSmulwY (cond : BitVec 4) (rd : Reg) (sbz : BitVec 4) (rs : Reg) (y : Bool) (rm : Reg) (s : State) : Out :=
  runIf cond s fun s =>
    shouldBe (sbz == 0#4) <|
      unpredictableIf (rd == 15#4 || rm == 15#4 || rs == 15#4) .multiplyR15
        (done (setReg s rd (wideProduct s rm rs y)))

/-- SMLAL<x><y> (R613). -/
def execSmlalXY (cond : BitVec 4) (rdHi rdLo rs : Reg) (y x : Bool) (rm : Reg) (s : State) : Out :=
  runIf cond s fun s =>
    unpredictableIf (rdHi == 15#4 || rdLo == 15#4 || rm == 15#4 || rs == 15#4) .multiplyR15 <|
      unpredictableIf (rdHi == rdLo) .longSamePair
        (product64 s false rdHi rdLo (BitVec.ofInt 64 (halfProduct s rm x rs y) + accumulator s rdHi rdLo))

/-- SMUL<x><y> (R614). -/
def execSmulXY (cond : BitVec 4) (rd : Reg) (sbz : BitVec 4) (rs : Reg) (y x : Bool) (rm : Reg) (s : State) : Out :=
  runIf cond s fun s =>
    shouldBe (sbz == 0#4) <|
      unpredictableIf (rd == 15#4 || rm == 15#4 || rs == 15#4) .multiplyR15
        (done (setReg s rd (BitVec.ofInt 32 (halfProduct s rm x rs y))))

end Sys2Proof.Machine
end

