-- ==== Sys2Proof/Machine/Skipped.lean ====
section
/-! DEFINITION. The cond = 1111 words that are not BLX(1): each fails its condition check and costs the step's code fetch
(spec/40_pipeline.md R422; spec/43_arm_loadstore.md R705, spec/45_arm_coprocessor.md R808-R812, spec/30_encoding.md
R319). A preload has no architectural effect, so the skip is exact; its should-be field is not looked at, since the
word never executes. -/

namespace Sys2Proof.Machine

/-- PLD, immediate (R705). -/
def execPldImm (_u : Bool) (_rn : Reg) (_sbo : BitVec 4) (_imm : BitVec 12) (s : State) : Out := .next (chargeFetch s)

/-- PLD, register (R705). -/
def execPldReg (_u : Bool) (_rn : Reg) (_sbo : BitVec 4) (_imm : BitVec 5) (_st : BitVec 2) (_rm : Reg)
    (s : State) : Out := .next (chargeFetch s)

/-- CDP2 (R808). -/
def execCdp2 (_opc1 _crn _crd _cp : BitVec 4) (_opc2 : BitVec 3) (_crm : BitVec 4) (s : State) : Out :=
  .next (chargeFetch s)

/-- MCR2 (R811): it does not reach CP15. -/
def execMcr2 (_opc1 : BitVec 3) (_crn : BitVec 4) (_rd : Reg) (_cp : BitVec 4) (_opc2 : BitVec 3) (_crm : BitVec 4)
    (s : State) : Out := .next (chargeFetch s)

/-- MRC2 (R812): no register or flag is written. -/
def execMrc2 (_opc1 : BitVec 3) (_crn : BitVec 4) (_rd : Reg) (_cp : BitVec 4) (_opc2 : BitVec 3) (_crm : BitVec 4)
    (s : State) : Out := .next (chargeFetch s)

/-- LDC2 (R809). -/
def execLdc2 (_p _u _n _w : Bool) (_rn : Reg) (_crd _cp : BitVec 4) (_imm : BitVec 8) (s : State) : Out :=
  .next (chargeFetch s)

/-- STC2 (R810). -/
def execStc2 (_p _u _n _w : Bool) (_rn : Reg) (_crd _cp : BitVec 4) (_imm : BitVec 8) (s : State) : Out :=
  .next (chargeFetch s)

/-- Every other cond = 1111 word (R319, D4). -/
def execNvSkipped (_body : BitVec 28) (s : State) : Out := .next (chargeFetch s)

end Sys2Proof.Machine
end

