-- ==== Sys2Proof/Machine/Status.lean ====
section
/-! DEFINITION. ARM status access, CLZ and saturating arithmetic: spec/41_arm_dataproc.md R540-R553. -/

namespace Sys2Proof.Machine

/-- The SPSR of the current mode, which USR and SYS do not have (R114, D58). -/
def withSpsrBank (s : State) (f : BankMode → Res Unit) : Res Unit :=
  match bankOf (curMode s) with
  | some b => f b
  | none => .fault .spsrNoMode

/-- MRS (R540). -/
def execMrs (cond : BitVec 4) (r : Bool) (sbo : BitVec 4) (rd : Reg) (sbz1 sbz2 : BitVec 4) (s : State) : Out :=
  runIf cond s fun s =>
    shouldBe (sbo == 0xF#4 && sbz1 == 0#4 && sbz2 == 0#4) <|
      unpredictableIf (rd == 15#4) .mrsToPc <|
        if r then withSpsrBank s fun b => done (setReg s rd (bankSpsr s b)) else done (setReg s rd s.cpsr)

/-- The byte mask of an MSR's field mask (R541). -/
def msrMask (f : BitVec 4) : Word :=
  (if f.getLsbD 0 then 0x000000FF#32 else 0#32) ||| (if f.getLsbD 1 then 0x0000FF00#32 else 0#32) |||
    (if f.getLsbD 2 then 0x00FF0000#32 else 0#32) ||| (if f.getLsbD 3 then 0xFF000000#32 else 0#32)

/-- `(old AND NOT mask) OR (operand AND mask)` (R541). -/
def merged (old operand mask : Word) : Word := (old &&& ~~~mask) ||| (operand &&& mask)

/-- `MSRWrite(R, f, operand)` (R541): User mode writes the flags field only. -/
def msrWrite (s : State) (r : Bool) (f : BitVec 4) (operand : Word) : Res Unit :=
  if r then withSpsrBank s fun b => done (setBankSpsr s b (merged (bankSpsr s b) operand (msrMask f)))
  else
    let mask := if isUser s then msrMask f &&& 0xFF000000#32 else msrMask f
    let new := merged s.cpsr operand mask
    unpredictableIf (new.getLsbD 5 != flagT s) .msrChangesT (writeCpsr s new)

/-- MSR, register form (R542). -/
def execMsrReg (cond : BitVec 4) (r : Bool) (fm sbo sbz : BitVec 4) (rm : Reg) (s : State) : Out :=
  runIf cond s fun s =>
    shouldBe (sbo == 0xF#4 && sbz == 0#4) <|
      unpredictableIf (rm == 15#4) .msrFromPc (msrWrite s r fm (reg s rm))

/-- MSR, immediate form (R541). -/
def execMsrImm (cond : BitVec 4) (r : Bool) (fm sbo rot : BitVec 4) (imm : BitVec 8) (s : State) : Out :=
  runIf cond s fun s => shouldBe (sbo == 0xF#4) (msrWrite s r fm (rotatedImm rot imm))

/-- CLZ (R545). -/
def execClz (cond sbo1 : BitVec 4) (rd : Reg) (sbo2 : BitVec 4) (rm : Reg) (s : State) : Out :=
  runIf cond s fun s =>
    shouldBe (sbo1 == 0xF#4 && sbo2 == 0xF#4) <|
      unpredictableIf (rd == 15#4 || rm == 15#4) .clzR15
        (done (setReg s rd (BitVec.ofNat 32 (leadingZeros (reg s rm) 32))))

/-- A saturating result written with its Q flag (R550): Q is set, never cleared. -/
def saturated (s : State) (rd : Reg) (r : Word × Bool) (sat : Bool) : State :=
  let t := setReg s rd r.1
  setFlags t (withQ t.cpsr (r.2 || sat))

/-- The checks of the saturating instructions (R550-R553). -/
def saturating (rn rd : Reg) (sbz : BitVec 4) (rm : Reg) (r : Res Unit) : Res Unit :=
  shouldBe (sbz == 0#4) <| unpredictableIf (rd == 15#4 || rm == 15#4 || rn == 15#4) .saturateR15 r

/-- `SignedSat32(2 × signed(x[Rn]))` (R552). -/
def satDouble (s : State) (rn : Reg) : Word × Bool := signedSat32 (2 * (reg s rn).toInt)

/-- QADD (R550). -/
def execQadd (cond : BitVec 4) (rn rd : Reg) (sbz : BitVec 4) (rm : Reg) (s : State) : Out :=
  runIf cond s fun s => saturating rn rd sbz rm <|
    done (saturated s rd (signedSat32 ((reg s rm).toInt + (reg s rn).toInt)) false)

/-- QSUB (R551). -/
def execQsub (cond : BitVec 4) (rn rd : Reg) (sbz : BitVec 4) (rm : Reg) (s : State) : Out :=
  runIf cond s fun s => saturating rn rd sbz rm <|
    done (saturated s rd (signedSat32 ((reg s rm).toInt - (reg s rn).toInt)) false)

/-- QDADD (R552). -/
def execQdadd (cond : BitVec 4) (rn rd : Reg) (sbz : BitVec 4) (rm : Reg) (s : State) : Out :=
  runIf cond s fun s => saturating rn rd sbz rm <|
    done (saturated s rd (signedSat32 ((reg s rm).toInt + (satDouble s rn).1.toInt)) (satDouble s rn).2)

/-- QDSUB (R553). -/
def execQdsub (cond : BitVec 4) (rn rd : Reg) (sbz : BitVec 4) (rm : Reg) (s : State) : Out :=
  runIf cond s fun s => saturating rn rd sbz rm <|
    done (saturated s rd (signedSat32 ((reg s rm).toInt - (satDouble s rn).1.toInt)) (satDouble s rn).2)

end Sys2Proof.Machine
end

