-- ==== Sys2Proof/Machine/ThumbAlu.lean ====
section
/-! DEFINITION. Thumb data processing and branch exchange: spec/47_thumb_alu.md R900-R938. -/

namespace Sys2Proof.Machine

/-- A result written with N and Z (R900 `SetNZ`). -/
def thumbNZ (s : State) (rd : LowReg) (r : Word) : Res Unit :=
  let t := setReg s (lowReg rd) r
  done (setFlags t (withNZ t.cpsr r))

/-- A result written with N, Z and C (R901, R914). -/
def thumbNZC (s : State) (rd : LowReg) (o : ShiftOut) : Res Unit :=
  let t := setReg s (lowReg rd) o.value
  done (setFlags t (withNZC t.cpsr o.value o.carry))

/-- The flags of an arithmetic result (R900 `SetNZCV`). -/
def thumbFlags (s : State) (r : AluOut) : Res Unit :=
  done (setFlags s (withNZCV s.cpsr r.value r.carry r.overflow))

/-- An arithmetic result written with its flags (R904). -/
def thumbArith (s : State) (rd : LowReg) (r : AluOut) : Res Unit := thumbFlags (setReg s (lowReg rd) r.value) r

/-- A register of a low-register field (R900). -/
def low (s : State) (r : LowReg) : Word := reg s (lowReg r)

/-- LSL, immediate (R901). -/
def execTLslImm (imm : BitVec 5) (rm rd : LowReg) (s : State) : Out :=
  run s fun s => thumbNZC s rd (shiftByImm 0b00#2 (low s rm) imm (flagC s))

/-- LSR, immediate (R902): 0 means 32. -/
def execTLsrImm (imm : BitVec 5) (rm rd : LowReg) (s : State) : Out :=
  run s fun s => thumbNZC s rd (shiftByImm 0b01#2 (low s rm) imm (flagC s))

/-- ASR, immediate (R903): 0 means 32. -/
def execTAsrImm (imm : BitVec 5) (rm rd : LowReg) (s : State) : Out :=
  run s fun s => thumbNZC s rd (shiftByImm 0b10#2 (low s rm) imm (flagC s))

/-- ADD, register (R904). -/
def execTAddReg (rm rn rd : LowReg) (s : State) : Out :=
  run s fun s => thumbArith s rd (addWithCarry (low s rn) (low s rm) false)

/-- SUB, register (R905). -/
def execTSubReg (rm rn rd : LowReg) (s : State) : Out :=
  run s fun s => thumbArith s rd (addWithCarry (low s rn) (~~~low s rm) true)

/-- ADD, immediate 3 (R906). -/
def execTAddImm3 (imm : BitVec 3) (rn rd : LowReg) (s : State) : Out :=
  run s fun s => thumbArith s rd (addWithCarry (low s rn) (imm.setWidth 32) false)

/-- SUB, immediate 3 (R907). -/
def execTSubImm3 (imm : BitVec 3) (rn rd : LowReg) (s : State) : Out :=
  run s fun s => thumbArith s rd (addWithCarry (low s rn) (~~~(imm.setWidth 32)) true)

/-- MOV, immediate (R908): C and V unchanged. -/
def execTMovImm (rd : LowReg) (imm : BitVec 8) (s : State) : Out := run s fun s => thumbNZ s rd (imm.setWidth 32)

/-- CMP, immediate (R909). -/
def execTCmpImm (rd : LowReg) (imm : BitVec 8) (s : State) : Out :=
  run s fun s => thumbFlags s (addWithCarry (low s rd) (~~~(imm.setWidth 32)) true)

/-- ADD, immediate 8 (R910). -/
def execTAddImm8 (rd : LowReg) (imm : BitVec 8) (s : State) : Out :=
  run s fun s => thumbArith s rd (addWithCarry (low s rd) (imm.setWidth 32) false)

/-- SUB, immediate 8 (R911). -/
def execTSubImm8 (rd : LowReg) (imm : BitVec 8) (s : State) : Out :=
  run s fun s => thumbArith s rd (addWithCarry (low s rd) (~~~(imm.setWidth 32)) true)

/-- A shift by a register (R900 `ThumbShiftReg`, R914). -/
def thumbShift (st : BitVec 2) (rm rd : LowReg) (s : State) : Res Unit :=
  thumbNZC s rd (shiftByReg st (low s rd) ((low s rm).setWidth 8).toNat (flagC s))

/-- AND (R912). -/
def execTAnd (rm rd : LowReg) (s : State) : Out := run s fun s => thumbNZ s rd (low s rd &&& low s rm)

/-- EOR (R913). -/
def execTEor (rm rd : LowReg) (s : State) : Out := run s fun s => thumbNZ s rd (low s rd ^^^ low s rm)

/-- LSL, register (R914). -/
def execTLslReg (rm rd : LowReg) (s : State) : Out := run s fun s => thumbShift 0b00#2 rm rd s

/-- LSR, register (R915). -/
def execTLsrReg (rm rd : LowReg) (s : State) : Out := run s fun s => thumbShift 0b01#2 rm rd s

/-- ASR, register (R916). -/
def execTAsrReg (rm rd : LowReg) (s : State) : Out := run s fun s => thumbShift 0b10#2 rm rd s

/-- ADC (R917). -/
def execTAdc (rm rd : LowReg) (s : State) : Out :=
  run s fun s => thumbArith s rd (addWithCarry (low s rd) (low s rm) (flagC s))

/-- SBC (R918). -/
def execTSbc (rm rd : LowReg) (s : State) : Out :=
  run s fun s => thumbArith s rd (addWithCarry (low s rd) (~~~low s rm) (flagC s))

/-- ROR (R919). -/
def execTRor (rm rd : LowReg) (s : State) : Out := run s fun s => thumbShift 0b11#2 rm rd s

/-- TST (R920). -/
def execTTst (rm rd : LowReg) (s : State) : Out :=
  run s fun s => done (setFlags s (withNZ s.cpsr (low s rd &&& low s rm)))

/-- NEG (R921). -/
def execTNeg (rm rd : LowReg) (s : State) : Out :=
  run s fun s => thumbArith s rd (addWithCarry 0#32 (~~~low s rm) true)

/-- CMP, low registers (R922). -/
def execTCmpReg (rm rd : LowReg) (s : State) : Out :=
  run s fun s => thumbFlags s (addWithCarry (low s rd) (~~~low s rm) true)

/-- CMN (R923). -/
def execTCmn (rm rd : LowReg) (s : State) : Out :=
  run s fun s => thumbFlags s (addWithCarry (low s rd) (low s rm) false)

/-- ORR (R924). -/
def execTOrr (rm rd : LowReg) (s : State) : Out := run s fun s => thumbNZ s rd (low s rd ||| low s rm)

/-- MUL (R925): C and V unchanged. -/
def execTMul (rm rd : LowReg) (s : State) : Out :=
  run s fun s => unpredictableIf (rd == rm) .multiplyRdRm (thumbNZ s rd (low s rm * low s rd))

/-- BIC (R926). -/
def execTBic (rm rd : LowReg) (s : State) : Out := run s fun s => thumbNZ s rd (low s rd &&& ~~~low s rm)

/-- MVN (R927). -/
def execTMvn (rm rd : LowReg) (s : State) : Out := run s fun s => thumbNZ s rd (~~~low s rm)

/-- A hi-register operation names at least one hi register (R930). -/
def hiChecked (h1 h2 : Bool) (r : Res Unit) : Res Unit := unpredictableIf (!h1 && !h2) .hiOpOnLow r

/-- A hi register written without flags; PC by a branch (R930, R932). -/
def hiWrite (s : State) (rd : Reg) (v : Word) : Res Unit :=
  if rd = 15#4 then branchWritePc s v else done (setReg s rd v)

/-- ADD, hi registers (R930). -/
def execTAddHi (h1 h2 : Bool) (rm rd : LowReg) (s : State) : Out :=
  run s fun s => hiChecked h1 h2 (hiWrite s (hiReg h1 rd) (reg s (hiReg h1 rd) + reg s (hiReg h2 rm)))

/-- CMP, hi registers (R931). -/
def execTCmpHi (h1 h2 : Bool) (rm rd : LowReg) (s : State) : Out :=
  run s fun s =>
    hiChecked h1 h2 (thumbFlags s (addWithCarry (reg s (hiReg h1 rd)) (~~~reg s (hiReg h2 rm)) true))

/-- MOV, hi registers (R932). -/
def execTMovHi (h1 h2 : Bool) (rm rd : LowReg) (s : State) : Out :=
  run s fun s => hiChecked h1 h2 (hiWrite s (hiReg h1 rd) (reg s (hiReg h2 rm)))

/-- BX (R933). -/
def execTBx (h2 : Bool) (rm : LowReg) (sbz : BitVec 3) (s : State) : Out :=
  run s fun s => shouldBe (sbz == 0#3) (bxWritePc s (reg s (hiReg h2 rm)))

/-- BLX, register (R934): the link has bit 0 set, and the target is read before LR is written. -/
def execTBlxReg (h2 : Bool) (rm : LowReg) (sbz : BitVec 3) (s : State) : Out :=
  run s fun s =>
    shouldBe (sbz == 0#3) <|
      unpredictableIf (hiReg h2 rm == 15#4) .blxPc
        (bxWritePc (setReg s 14#4 ((instrAddr s + 2#32) ||| 1#32)) (reg s (hiReg h2 rm)))

/-- `zext_32(imm) × 4` (R935). -/
def scaled4 {m : Nat} (imm : BitVec m) : Word := imm.setWidth 32 * 4#32

/-- ADD, PC plus immediate (R935). -/
def execTAddPc (rd : LowReg) (imm : BitVec 8) (s : State) : Out :=
  run s fun s => done (setReg s (lowReg rd) (alignWord (reg s 15#4) + scaled4 imm))

/-- ADD, SP plus immediate (R936). -/
def execTAddSp (rd : LowReg) (imm : BitVec 8) (s : State) : Out :=
  run s fun s => done (setReg s (lowReg rd) (reg s 13#4 + scaled4 imm))

/-- ADD SP, immediate (R937). -/
def execTAddSpImm (imm : BitVec 7) (s : State) : Out := run s fun s => done (setReg s 13#4 (reg s 13#4 + scaled4 imm))

/-- SUB SP, immediate (R938). -/
def execTSubSpImm (imm : BitVec 7) (s : State) : Out := run s fun s => done (setReg s 13#4 (reg s 13#4 - scaled4 imm))

end Sys2Proof.Machine
end

