-- ==== Sys2Proof/Machine/ThumbBranch.lean ====
section
/-! DEFINITION. Thumb branches, software interrupt and breakpoint: spec/48_thumb_mem_branch.md R991-R997. -/

namespace Sys2Proof.Machine

/-- B<cond> (R991): not taken, it costs the step's code fetch only (R423). -/
def execTBCond (cond : BitVec 4) (imm : BitVec 8) (s : State) : Out :=
  runIf cond s fun s => branchWritePc s (reg s 15#4 + (imm ++ 0b0#1).signExtend 32)

/-- SWI (R992): the comment is not interpreted. -/
def execTSwi (_imm : BitVec 8) (s : State) : Out := run s fun s => raise s .softwareInterrupt

/-- B (R993). -/
def execTB (imm : BitVec 11) (s : State) : Out :=
  run s fun s => branchWritePc s (reg s 15#4 + (imm ++ 0b0#1).signExtend 32)

/-- BL/BLX prefix (R994): LR carries the partial address. -/
def execTBlPrefix (imm : BitVec 11) (s : State) : Out :=
  run s fun s => done (setReg s 14#4 (reg s 15#4 + (imm.signExtend 32 <<< 12)))

/-- The link of a Thumb call (R995): the next instruction, bit 0 set. -/
def thumbLink (s : State) : Word := (instrAddr s + 2#32) ||| 1#32

/-- BL suffix (R995): a suffix without a prefix uses whatever LR holds. -/
def execTBlSuffix (imm : BitVec 11) (s : State) : Out :=
  run s fun s =>
    branchWritePc (setReg s 14#4 (thumbLink s)) (reg s 14#4 + (imm.setWidth 32 <<< 1))

/-- BLX(1) suffix (R996): the target is in ARM state; bit 0 of the 11-bit field is the row's fixed 0. -/
def execTBlxSuffix (imm : BitVec 10) (s : State) : Out :=
  run s fun s =>
    done (jumpTo (setReg s 14#4 (thumbLink s)) (alignWord (reg s 14#4 + ((imm ++ 0b0#1).setWidth 32 <<< 1))))

/-- BKPT (R997). -/
def execTBkpt (_imm : BitVec 8) (s : State) : Out := run s fun s => raise s .prefetchAbort

end Sys2Proof.Machine
end

