-- ==== Sys2Proof/Machine/ThumbMem.lean ====
section
/-! DEFINITION. Thumb loads and stores: spec/48_thumb_mem_branch.md R970-R990. -/

namespace Sys2Proof.Machine

/-- An address without writeback, as the shared loads and stores take it. -/
def plain (a : Word) : Addr := { address := a, wb := false, moved := a }

/-- `x[Rn] + x[Rm]` (R971). -/
def regOffset (s : State) (rm rn : LowReg) : Addr := plain (low s rn + low s rm)

/-- `x[Rn] + zext_32(imm5) × scale` (R979). -/
def immOffset (s : State) (imm : BitVec 5) (scale : Word) (rn : LowReg) : Addr :=
  plain (low s rn + imm.setWidth 32 * scale)

/-- `x[13] + zext_32(imm8) × 4` (R985). -/
def spOffset (s : State) (imm : BitVec 8) : Addr := plain (reg s 13#4 + scaled4 imm)

/-- LDR, PC-relative (R970): the address is a multiple of 4. -/
def execTLdrPc (rd : LowReg) (imm : BitVec 8) (s : State) : Out :=
  run s fun s => loadWord s (lowReg rd) (lowReg rd) (plain (alignWord (reg s 15#4) + scaled4 imm))

/-- STR, register offset (R971). -/
def execTStrReg (rm rn rd : LowReg) (s : State) : Out :=
  run s fun s => storeWord s (lowReg rn) (lowReg rd) (regOffset s rm rn)

/-- STRH, register offset (R972). -/
def execTStrhReg (rm rn rd : LowReg) (s : State) : Out :=
  run s fun s => storeHalf s (lowReg rn) (lowReg rd) (regOffset s rm rn)

/-- STRB, register offset (R973). -/
def execTStrbReg (rm rn rd : LowReg) (s : State) : Out :=
  run s fun s => storeNarrow .byte s (lowReg rn) (lowReg rd) (regOffset s rm rn)

/-- LDRSB, register offset (R974). -/
def execTLdrsbReg (rm rn rd : LowReg) (s : State) : Out :=
  run s fun s => loadSignedByte s (lowReg rn) (lowReg rd) (regOffset s rm rn)

/-- LDR, register offset (R975). -/
def execTLdrReg (rm rn rd : LowReg) (s : State) : Out :=
  run s fun s => loadWord s (lowReg rn) (lowReg rd) (regOffset s rm rn)

/-- LDRH, register offset (R976). -/
def execTLdrhReg (rm rn rd : LowReg) (s : State) : Out :=
  run s fun s => loadHalf s (lowReg rn) (lowReg rd) (regOffset s rm rn)

/-- LDRB, register offset (R977). -/
def execTLdrbReg (rm rn rd : LowReg) (s : State) : Out :=
  run s fun s => loadByte s (lowReg rn) (lowReg rd) (regOffset s rm rn)

/-- LDRSH, register offset (R978). -/
def execTLdrshReg (rm rn rd : LowReg) (s : State) : Out :=
  run s fun s => loadSignedHalf s (lowReg rn) (lowReg rd) (regOffset s rm rn)

/-- STR, immediate offset (R979). -/
def execTStrImm (imm : BitVec 5) (rn rd : LowReg) (s : State) : Out :=
  run s fun s => storeWord s (lowReg rn) (lowReg rd) (immOffset s imm 4#32 rn)

/-- LDR, immediate offset (R980). -/
def execTLdrImm (imm : BitVec 5) (rn rd : LowReg) (s : State) : Out :=
  run s fun s => loadWord s (lowReg rn) (lowReg rd) (immOffset s imm 4#32 rn)

/-- STRB, immediate offset (R981). -/
def execTStrbImm (imm : BitVec 5) (rn rd : LowReg) (s : State) : Out :=
  run s fun s => storeNarrow .byte s (lowReg rn) (lowReg rd) (immOffset s imm 1#32 rn)

/-- LDRB, immediate offset (R982). -/
def execTLdrbImm (imm : BitVec 5) (rn rd : LowReg) (s : State) : Out :=
  run s fun s => loadByte s (lowReg rn) (lowReg rd) (immOffset s imm 1#32 rn)

/-- STRH, immediate offset (R983). -/
def execTStrhImm (imm : BitVec 5) (rn rd : LowReg) (s : State) : Out :=
  run s fun s => storeHalf s (lowReg rn) (lowReg rd) (immOffset s imm 2#32 rn)

/-- LDRH, immediate offset (R984). -/
def execTLdrhImm (imm : BitVec 5) (rn rd : LowReg) (s : State) : Out :=
  run s fun s => loadHalf s (lowReg rn) (lowReg rd) (immOffset s imm 2#32 rn)

/-- STR, SP-relative (R985). -/
def execTStrSp (rd : LowReg) (imm : BitVec 8) (s : State) : Out :=
  run s fun s => storeWord s 13#4 (lowReg rd) (spOffset s imm)

/-- LDR, SP-relative (R986). -/
def execTLdrSp (rd : LowReg) (imm : BitVec 8) (s : State) : Out :=
  run s fun s => loadWord s 13#4 (lowReg rd) (spOffset s imm)

/-- The registers of a Thumb list and the one its R bit adds, as a 16-bit list (R987, R988). -/
def thumbList (r : Bool) (extra : Nat) (list : BitVec 8) : BitVec 16 :=
  list.setWidth 16 ||| (if r then BitVec.ofNat 16 (2 ^ extra) else 0#16)

/-- `4 × n` for a list (R987). -/
def listBytes (list : BitVec 16) : Word := BitVec.ofNat 32 (4 * popcount list)

/-- PUSH (R987): LR is the highest register, so it is stored last; SP is written last. -/
def execTPush (r : Bool) (list : BitVec 8) (s : State) : Out :=
  run s fun s =>
    let l := thumbList r 14 list
    let start := reg s 13#4 - listBytes l
    unpredictableIf (l == 0#16) .emptyList <|
      (storeEach reg (listed l) (alignWord start) s).bind fun _ t => done (setReg t 13#4 start)

/-- POP (R988): SP is written before the PC is, and a loaded PC interworks. -/
def execTPop (r : Bool) (list : BitVec 8) (s : State) : Out :=
  run s fun s =>
    let l := thumbList r 15 list
    let top := reg s 13#4 + listBytes l
    unpredictableIf (l == 0#16) .emptyList <|
      (loadEach setReg (listed list) (alignWord (reg s 13#4)) s).bind fun a t =>
        if r then (load t a .word).bind fun v t => loadWritePc (setReg t 13#4 top) v
        else done (setReg t 13#4 top)

/-- STMIA (R989): a base that is the lowest listed register stores its original value. -/
def execTStmia (rn : LowReg) (list : BitVec 8) (s : State) : Out :=
  run s fun s =>
    let l := thumbList false 0 list
    unpredictableIf (l == 0#16) .emptyList <|
      unpredictableIf (list.getLsbD rn.toNat && !isLowest list rn.toNat) .storeBaseNotLowest <|
        (storeEach reg (listed l) (alignWord (low s rn)) s).bind fun _ t =>
          done (setReg t (lowReg rn) (low s rn + listBytes l))

/-- LDMIA (R990): a base in the list keeps the loaded value. -/
def execTLdmia (rn : LowReg) (list : BitVec 8) (s : State) : Out :=
  run s fun s =>
    let l := thumbList false 0 list
    unpredictableIf (l == 0#16) .emptyList <|
      (loadEach setReg (listed l) (alignWord (low s rn)) s).bind fun _ t =>
        done (writeback t (!list.getLsbD rn.toNat) (lowReg rn) (low s rn + listBytes l))

end Sys2Proof.Machine
end

