-- ==== Sys2Proof/Machine/Undefined.lean ====
section
/-! DEFINITION. The ARM and Thumb undefined space: spec/44_arm_branch.md R760, spec/48_thumb_mem_branch.md R998 (the
encodings are spec/30_encoding.md R340 and R341). -/

namespace Sys2Proof.Machine

/-- UNDEF_mul_space_01 (R760, R340): the condition check applies first. -/
def execUndefMulSpace01 (cond : BitVec 4) (_f1 : BitVec 14) (_f2 : BitVec 4) (s : State) : Out :=
  runIf cond s fun s => raise s .undefined

/-- UNDEF_swap_space_a (R760, R340): the condition check applies first. -/
def execUndefSwapSpaceA (cond : BitVec 4) (_f1 : BitVec 1) (_f2 : BitVec 12) (_f3 : BitVec 4) (s : State) : Out :=
  runIf cond s fun s => raise s .undefined

/-- UNDEF_swap_space_b (R760, R340): the condition check applies first. -/
def execUndefSwapSpaceB (cond : BitVec 4) (_f1 : BitVec 1) (_f2 : BitVec 13) (_f3 : BitVec 4) (s : State) : Out :=
  runIf cond s fun s => raise s .undefined

/-- UNDEF_swap_space_c (R760, R340): the condition check applies first. -/
def execUndefSwapSpaceC (cond : BitVec 4) (_f1 : BitVec 15) (_f2 : BitVec 4) (s : State) : Out :=
  runIf cond s fun s => raise s .undefined

/-- UNDEF_misc_0001 (R760, R340): the condition check applies first. -/
def execUndefMisc0001 (cond : BitVec 4) (_f1 : BitVec 1) (_f2 : BitVec 12) (_f3 : BitVec 4) (s : State) : Out :=
  runIf cond s fun s => raise s .undefined

/-- UNDEF_misc_0010_a (R760, R340): the condition check applies first. -/
def execUndefMisc0010A (cond : BitVec 4) (_f1 : BitVec 1) (_f2 : BitVec 12) (_f3 : BitVec 4) (s : State) : Out :=
  runIf cond s fun s => raise s .undefined

/-- UNDEF_misc_0010_b (R760, R340): the condition check applies first. -/
def execUndefMisc0010B (cond : BitVec 4) (_f1 : BitVec 12) (_f2 : BitVec 4) (s : State) : Out :=
  runIf cond s fun s => raise s .undefined

/-- UNDEF_misc_0011_a (R760, R340): the condition check applies first. -/
def execUndefMisc0011A (cond : BitVec 4) (_f1 : BitVec 1) (_f2 : BitVec 12) (_f3 : BitVec 4) (s : State) : Out :=
  runIf cond s fun s => raise s .undefined

/-- UNDEF_misc_0011_b (R760, R340): the condition check applies first. -/
def execUndefMisc0011B (cond : BitVec 4) (_f1 : BitVec 12) (_f2 : BitVec 4) (s : State) : Out :=
  runIf cond s fun s => raise s .undefined

/-- UNDEF_misc_0100 (R760, R340): the condition check applies first. -/
def execUndefMisc0100 (cond : BitVec 4) (_f1 : BitVec 2) (_f2 : BitVec 12) (_f3 : BitVec 4) (s : State) : Out :=
  runIf cond s fun s => raise s .undefined

/-- UNDEF_misc_0110 (R760, R340): the condition check applies first. -/
def execUndefMisc0110 (cond : BitVec 4) (_f1 : BitVec 2) (_f2 : BitVec 12) (_f3 : BitVec 4) (s : State) : Out :=
  runIf cond s fun s => raise s .undefined

/-- UNDEF_misc_0111_a (R760, R340): the condition check applies first. -/
def execUndefMisc0111A (cond : BitVec 4) (_f1 : BitVec 1) (_f2 : BitVec 12) (_f3 : BitVec 4) (s : State) : Out :=
  runIf cond s fun s => raise s .undefined

/-- UNDEF_misc_0111_b (R760, R340): the condition check applies first. -/
def execUndefMisc0111B (cond : BitVec 4) (_f1 : BitVec 12) (_f2 : BitVec 4) (s : State) : Out :=
  runIf cond s fun s => raise s .undefined

/-- UNDEF_msr_imm_space (R760, R340): the condition check applies first. -/
def execUndefMsrImmSpace (cond : BitVec 4) (_f1 : BitVec 1) (_f2 : BitVec 20) (s : State) : Out :=
  runIf cond s fun s => raise s .undefined

/-- UNDEF_ls_reg_bit4 (R760, R340): the condition check applies first. -/
def execUndefLsRegBit4 (cond : BitVec 4) (_f1 : BitVec 20) (_f2 : BitVec 4) (s : State) : Out :=
  runIf cond s fun s => raise s .undefined

/-- UNDEF_cp_ls_space (R760, R340): the condition check applies first. -/
def execUndefCpLsSpace (cond : BitVec 4) (_body : BitVec 21) (s : State) : Out :=
  runIf cond s fun s => raise s .undefined

/-- T_UNDEF_b1 (R998, R341). -/
def execTUndefB1 (_body : BitVec 8) (s : State) : Out := run s fun s => raise s .undefined

/-- T_UNDEF_b2_b3 (R998, R341). -/
def execTUndefB2B3 (_body : BitVec 9) (s : State) : Out := run s fun s => raise s .undefined

/-- T_UNDEF_b6_b7 (R998, R341). -/
def execTUndefB6B7 (_body : BitVec 9) (s : State) : Out := run s fun s => raise s .undefined

/-- T_UNDEF_b8_bb (R998, R341). -/
def execTUndefB8Bb (_body : BitVec 10) (s : State) : Out := run s fun s => raise s .undefined

/-- T_UNDEF_bf (R998, R341). -/
def execTUndefBf (_body : BitVec 8) (s : State) : Out := run s fun s => raise s .undefined

/-- T_UNDEF_cond_e (R998, R341). -/
def execTUndefCondE (_body : BitVec 8) (s : State) : Out := run s fun s => raise s .undefined

/-- T_UNDEF_blx_odd (R998, R341). -/
def execTUndefBlxOdd (_body : BitVec 10) (s : State) : Out := run s fun s => raise s .undefined

end Sys2Proof.Machine
end

