-- ==== Sys2Proof/Machine/Dispatch.lean ====
section
/-! DEFINITION. The dispatch: one arm per constructor of `Instr`, each one direct call of the instruction's meaning. -/

namespace Sys2Proof.Machine

open Sys2Proof

def exec (i : Instr) (s : State) : Host.Outcome State Fault Refusal :=
  match i with
  | .andImmShift cond sf rn rd imm st rm => Sys2Proof.Machine.execAndImmShift cond sf rn rd imm st rm s
  | .andRegShift cond sf rn rd rs st rm => Sys2Proof.Machine.execAndRegShift cond sf rn rd rs st rm s
  | .andImm cond sf rn rd rot imm => Sys2Proof.Machine.execAndImm cond sf rn rd rot imm s
  | .eorImmShift cond sf rn rd imm st rm => Sys2Proof.Machine.execEorImmShift cond sf rn rd imm st rm s
  | .eorRegShift cond sf rn rd rs st rm => Sys2Proof.Machine.execEorRegShift cond sf rn rd rs st rm s
  | .eorImm cond sf rn rd rot imm => Sys2Proof.Machine.execEorImm cond sf rn rd rot imm s
  | .subImmShift cond sf rn rd imm st rm => Sys2Proof.Machine.execSubImmShift cond sf rn rd imm st rm s
  | .subRegShift cond sf rn rd rs st rm => Sys2Proof.Machine.execSubRegShift cond sf rn rd rs st rm s
  | .subImm cond sf rn rd rot imm => Sys2Proof.Machine.execSubImm cond sf rn rd rot imm s
  | .rsbImmShift cond sf rn rd imm st rm => Sys2Proof.Machine.execRsbImmShift cond sf rn rd imm st rm s
  | .rsbRegShift cond sf rn rd rs st rm => Sys2Proof.Machine.execRsbRegShift cond sf rn rd rs st rm s
  | .rsbImm cond sf rn rd rot imm => Sys2Proof.Machine.execRsbImm cond sf rn rd rot imm s
  | .addImmShift cond sf rn rd imm st rm => Sys2Proof.Machine.execAddImmShift cond sf rn rd imm st rm s
  | .addRegShift cond sf rn rd rs st rm => Sys2Proof.Machine.execAddRegShift cond sf rn rd rs st rm s
  | .addImm cond sf rn rd rot imm => Sys2Proof.Machine.execAddImm cond sf rn rd rot imm s
  | .adcImmShift cond sf rn rd imm st rm => Sys2Proof.Machine.execAdcImmShift cond sf rn rd imm st rm s
  | .adcRegShift cond sf rn rd rs st rm => Sys2Proof.Machine.execAdcRegShift cond sf rn rd rs st rm s
  | .adcImm cond sf rn rd rot imm => Sys2Proof.Machine.execAdcImm cond sf rn rd rot imm s
  | .sbcImmShift cond sf rn rd imm st rm => Sys2Proof.Machine.execSbcImmShift cond sf rn rd imm st rm s
  | .sbcRegShift cond sf rn rd rs st rm => Sys2Proof.Machine.execSbcRegShift cond sf rn rd rs st rm s
  | .sbcImm cond sf rn rd rot imm => Sys2Proof.Machine.execSbcImm cond sf rn rd rot imm s
  | .rscImmShift cond sf rn rd imm st rm => Sys2Proof.Machine.execRscImmShift cond sf rn rd imm st rm s
  | .rscRegShift cond sf rn rd rs st rm => Sys2Proof.Machine.execRscRegShift cond sf rn rd rs st rm s
  | .rscImm cond sf rn rd rot imm => Sys2Proof.Machine.execRscImm cond sf rn rd rot imm s
  | .tstImmShift cond rn sbz imm st rm => Sys2Proof.Machine.execTstImmShift cond rn sbz imm st rm s
  | .tstRegShift cond rn sbz rs st rm => Sys2Proof.Machine.execTstRegShift cond rn sbz rs st rm s
  | .tstImm cond rn sbz rot imm => Sys2Proof.Machine.execTstImm cond rn sbz rot imm s
  | .teqImmShift cond rn sbz imm st rm => Sys2Proof.Machine.execTeqImmShift cond rn sbz imm st rm s
  | .teqRegShift cond rn sbz rs st rm => Sys2Proof.Machine.execTeqRegShift cond rn sbz rs st rm s
  | .teqImm cond rn sbz rot imm => Sys2Proof.Machine.execTeqImm cond rn sbz rot imm s
  | .cmpImmShift cond rn sbz imm st rm => Sys2Proof.Machine.execCmpImmShift cond rn sbz imm st rm s
  | .cmpRegShift cond rn sbz rs st rm => Sys2Proof.Machine.execCmpRegShift cond rn sbz rs st rm s
  | .cmpImm cond rn sbz rot imm => Sys2Proof.Machine.execCmpImm cond rn sbz rot imm s
  | .cmnImmShift cond rn sbz imm st rm => Sys2Proof.Machine.execCmnImmShift cond rn sbz imm st rm s
  | .cmnRegShift cond rn sbz rs st rm => Sys2Proof.Machine.execCmnRegShift cond rn sbz rs st rm s
  | .cmnImm cond rn sbz rot imm => Sys2Proof.Machine.execCmnImm cond rn sbz rot imm s
  | .orrImmShift cond sf rn rd imm st rm => Sys2Proof.Machine.execOrrImmShift cond sf rn rd imm st rm s
  | .orrRegShift cond sf rn rd rs st rm => Sys2Proof.Machine.execOrrRegShift cond sf rn rd rs st rm s
  | .orrImm cond sf rn rd rot imm => Sys2Proof.Machine.execOrrImm cond sf rn rd rot imm s
  | .movImmShift cond sf sbz rd imm st rm => Sys2Proof.Machine.execMovImmShift cond sf sbz rd imm st rm s
  | .movRegShift cond sf sbz rd rs st rm => Sys2Proof.Machine.execMovRegShift cond sf sbz rd rs st rm s
  | .movImm cond sf sbz rd rot imm => Sys2Proof.Machine.execMovImm cond sf sbz rd rot imm s
  | .bicImmShift cond sf rn rd imm st rm => Sys2Proof.Machine.execBicImmShift cond sf rn rd imm st rm s
  | .bicRegShift cond sf rn rd rs st rm => Sys2Proof.Machine.execBicRegShift cond sf rn rd rs st rm s
  | .bicImm cond sf rn rd rot imm => Sys2Proof.Machine.execBicImm cond sf rn rd rot imm s
  | .mvnImmShift cond sf sbz rd imm st rm => Sys2Proof.Machine.execMvnImmShift cond sf sbz rd imm st rm s
  | .mvnRegShift cond sf sbz rd rs st rm => Sys2Proof.Machine.execMvnRegShift cond sf sbz rd rs st rm s
  | .mvnImm cond sf sbz rd rot imm => Sys2Proof.Machine.execMvnImm cond sf sbz rd rot imm s
  | .mrs cond r sbo rd sbz1 sbz2 => Sys2Proof.Machine.execMrs cond r sbo rd sbz1 sbz2 s
  | .msrReg cond r fm sbo sbz rm => Sys2Proof.Machine.execMsrReg cond r fm sbo sbz rm s
  | .msrImm cond r fm sbo rot imm => Sys2Proof.Machine.execMsrImm cond r fm sbo rot imm s
  | .clz cond sbo1 rd sbo2 rm => Sys2Proof.Machine.execClz cond sbo1 rd sbo2 rm s
  | .qadd cond rn rd sbz rm => Sys2Proof.Machine.execQadd cond rn rd sbz rm s
  | .qsub cond rn rd sbz rm => Sys2Proof.Machine.execQsub cond rn rd sbz rm s
  | .qdadd cond rn rd sbz rm => Sys2Proof.Machine.execQdadd cond rn rd sbz rm s
  | .qdsub cond rn rd sbz rm => Sys2Proof.Machine.execQdsub cond rn rd sbz rm s
  | .mul cond sf rd sbz rs rm => Sys2Proof.Machine.execMul cond sf rd sbz rs rm s
  | .mla cond sf rd rn rs rm => Sys2Proof.Machine.execMla cond sf rd rn rs rm s
  | .umull cond sf rdHi rdLo rs rm => Sys2Proof.Machine.execUmull cond sf rdHi rdLo rs rm s
  | .umlal cond sf rdHi rdLo rs rm => Sys2Proof.Machine.execUmlal cond sf rdHi rdLo rs rm s
  | .smull cond sf rdHi rdLo rs rm => Sys2Proof.Machine.execSmull cond sf rdHi rdLo rs rm s
  | .smlal cond sf rdHi rdLo rs rm => Sys2Proof.Machine.execSmlal cond sf rdHi rdLo rs rm s
  | .smlaXY cond rd rn rs y x rm => Sys2Proof.Machine.execSmlaXY cond rd rn rs y x rm s
  | .smlawY cond rd rn rs y rm => Sys2Proof.Machine.execSmlawY cond rd rn rs y rm s
  | .smulwY cond rd sbz rs y rm => Sys2Proof.Machine.execSmulwY cond rd sbz rs y rm s
  | .smlalXY cond rdHi rdLo rs y x rm => Sys2Proof.Machine.execSmlalXY cond rdHi rdLo rs y x rm s
  | .smulXY cond rd sbz rs y x rm => Sys2Proof.Machine.execSmulXY cond rd sbz rs y x rm s
  | .swp cond rn rd sbz rm => Sys2Proof.Machine.execSwp cond rn rd sbz rm s
  | .swpb cond rn rd sbz rm => Sys2Proof.Machine.execSwpb cond rn rd sbz rm s
  | .ldrImmPre cond u w rn rd imm => Sys2Proof.Machine.execLdrImmPre cond u w rn rd imm s
  | .ldrImmPost cond u rn rd imm => Sys2Proof.Machine.execLdrImmPost cond u rn rd imm s
  | .ldrRegPre cond u w rn rd imm st rm => Sys2Proof.Machine.execLdrRegPre cond u w rn rd imm st rm s
  | .ldrRegPost cond u rn rd imm st rm => Sys2Proof.Machine.execLdrRegPost cond u rn rd imm st rm s
  | .ldrbImmPre cond u w rn rd imm => Sys2Proof.Machine.execLdrbImmPre cond u w rn rd imm s
  | .ldrbImmPost cond u rn rd imm => Sys2Proof.Machine.execLdrbImmPost cond u rn rd imm s
  | .ldrbRegPre cond u w rn rd imm st rm => Sys2Proof.Machine.execLdrbRegPre cond u w rn rd imm st rm s
  | .ldrbRegPost cond u rn rd imm st rm => Sys2Proof.Machine.execLdrbRegPost cond u rn rd imm st rm s
  | .strImmPre cond u w rn rd imm => Sys2Proof.Machine.execStrImmPre cond u w rn rd imm s
  | .strImmPost cond u rn rd imm => Sys2Proof.Machine.execStrImmPost cond u rn rd imm s
  | .strRegPre cond u w rn rd imm st rm => Sys2Proof.Machine.execStrRegPre cond u w rn rd imm st rm s
  | .strRegPost cond u rn rd imm st rm => Sys2Proof.Machine.execStrRegPost cond u rn rd imm st rm s
  | .strbImmPre cond u w rn rd imm => Sys2Proof.Machine.execStrbImmPre cond u w rn rd imm s
  | .strbImmPost cond u rn rd imm => Sys2Proof.Machine.execStrbImmPost cond u rn rd imm s
  | .strbRegPre cond u w rn rd imm st rm => Sys2Proof.Machine.execStrbRegPre cond u w rn rd imm st rm s
  | .strbRegPost cond u rn rd imm st rm => Sys2Proof.Machine.execStrbRegPost cond u rn rd imm st rm s
  | .ldrtImm cond u rn rd imm => Sys2Proof.Machine.execLdrtImm cond u rn rd imm s
  | .ldrtReg cond u rn rd imm st rm => Sys2Proof.Machine.execLdrtReg cond u rn rd imm st rm s
  | .ldrbtImm cond u rn rd imm => Sys2Proof.Machine.execLdrbtImm cond u rn rd imm s
  | .ldrbtReg cond u rn rd imm st rm => Sys2Proof.Machine.execLdrbtReg cond u rn rd imm st rm s
  | .strtImm cond u rn rd imm => Sys2Proof.Machine.execStrtImm cond u rn rd imm s
  | .strtReg cond u rn rd imm st rm => Sys2Proof.Machine.execStrtReg cond u rn rd imm st rm s
  | .strbtImm cond u rn rd imm => Sys2Proof.Machine.execStrbtImm cond u rn rd imm s
  | .strbtReg cond u rn rd imm st rm => Sys2Proof.Machine.execStrbtReg cond u rn rd imm st rm s
  | .strhImm cond p u w rn rd immHi immLo => Sys2Proof.Machine.execStrhImm cond p u w rn rd immHi immLo s
  | .strhReg cond p u w rn rd sbz rm => Sys2Proof.Machine.execStrhReg cond p u w rn rd sbz rm s
  | .ldrdImm cond p u w rn rd immHi immLo => Sys2Proof.Machine.execLdrdImm cond p u w rn rd immHi immLo s
  | .ldrdReg cond p u w rn rd sbz rm => Sys2Proof.Machine.execLdrdReg cond p u w rn rd sbz rm s
  | .strdImm cond p u w rn rd immHi immLo => Sys2Proof.Machine.execStrdImm cond p u w rn rd immHi immLo s
  | .strdReg cond p u w rn rd sbz rm => Sys2Proof.Machine.execStrdReg cond p u w rn rd sbz rm s
  | .ldrhImm cond p u w rn rd immHi immLo => Sys2Proof.Machine.execLdrhImm cond p u w rn rd immHi immLo s
  | .ldrhReg cond p u w rn rd sbz rm => Sys2Proof.Machine.execLdrhReg cond p u w rn rd sbz rm s
  | .ldrsbImm cond p u w rn rd immHi immLo => Sys2Proof.Machine.execLdrsbImm cond p u w rn rd immHi immLo s
  | .ldrsbReg cond p u w rn rd sbz rm => Sys2Proof.Machine.execLdrsbReg cond p u w rn rd sbz rm s
  | .ldrshImm cond p u w rn rd immHi immLo => Sys2Proof.Machine.execLdrshImm cond p u w rn rd immHi immLo s
  | .ldrshReg cond p u w rn rd sbz rm => Sys2Proof.Machine.execLdrshReg cond p u w rn rd sbz rm s
  | .ldm1 cond p u w rn list => Sys2Proof.Machine.execLdm1 cond p u w rn list s
  | .ldm2 cond p u w rn list => Sys2Proof.Machine.execLdm2 cond p u w rn list s
  | .ldm3 cond p u w rn list => Sys2Proof.Machine.execLdm3 cond p u w rn list s
  | .stm1 cond p u w rn list => Sys2Proof.Machine.execStm1 cond p u w rn list s
  | .stm2 cond p u w rn list => Sys2Proof.Machine.execStm2 cond p u w rn list s
  | .b cond imm => Sys2Proof.Machine.execB cond imm s
  | .bl cond imm => Sys2Proof.Machine.execBl cond imm s
  | .blxImm h imm => Sys2Proof.Machine.execBlxImm h imm s
  | .bx cond sbo rm => Sys2Proof.Machine.execBx cond sbo rm s
  | .bxj cond sbo rm => Sys2Proof.Machine.execBxj cond sbo rm s
  | .blxReg cond sbo rm => Sys2Proof.Machine.execBlxReg cond sbo rm s
  | .swi cond imm => Sys2Proof.Machine.execSwi cond imm s
  | .bkpt cond immHi immLo => Sys2Proof.Machine.execBkpt cond immHi immLo s
  | .ldcPre cond u n w rn crd cp imm => Sys2Proof.Machine.execLdcPre cond u n w rn crd cp imm s
  | .ldcPost cond u n rn crd cp imm => Sys2Proof.Machine.execLdcPost cond u n rn crd cp imm s
  | .ldcUnindexed cond n rn crd cp opt => Sys2Proof.Machine.execLdcUnindexed cond n rn crd cp opt s
  | .stcPre cond u n w rn crd cp imm => Sys2Proof.Machine.execStcPre cond u n w rn crd cp imm s
  | .stcPost cond u n rn crd cp imm => Sys2Proof.Machine.execStcPost cond u n rn crd cp imm s
  | .stcUnindexed cond n rn crd cp opt => Sys2Proof.Machine.execStcUnindexed cond n rn crd cp opt s
  | .mcrr cond rn rd cp opc crm => Sys2Proof.Machine.execMcrr cond rn rd cp opc crm s
  | .mrrc cond rn rd cp opc crm => Sys2Proof.Machine.execMrrc cond rn rd cp opc crm s
  | .cdp cond opc1 crn crd cp opc2 crm => Sys2Proof.Machine.execCdp cond opc1 crn crd cp opc2 crm s
  | .mcr cond opc1 crn rd cp opc2 crm => Sys2Proof.Machine.execMcr cond opc1 crn rd cp opc2 crm s
  | .mrc cond opc1 crn rd cp opc2 crm => Sys2Proof.Machine.execMrc cond opc1 crn rd cp opc2 crm s
  | .pldImm u rn sbo imm => Sys2Proof.Machine.execPldImm u rn sbo imm s
  | .pldReg u rn sbo imm st rm => Sys2Proof.Machine.execPldReg u rn sbo imm st rm s
  | .cdp2 opc1 crn crd cp opc2 crm => Sys2Proof.Machine.execCdp2 opc1 crn crd cp opc2 crm s
  | .mcr2 opc1 crn rd cp opc2 crm => Sys2Proof.Machine.execMcr2 opc1 crn rd cp opc2 crm s
  | .mrc2 opc1 crn rd cp opc2 crm => Sys2Proof.Machine.execMrc2 opc1 crn rd cp opc2 crm s
  | .ldc2 p u n w rn crd cp imm => Sys2Proof.Machine.execLdc2 p u n w rn crd cp imm s
  | .stc2 p u n w rn crd cp imm => Sys2Proof.Machine.execStc2 p u n w rn crd cp imm s
  | .nvSkipped body => Sys2Proof.Machine.execNvSkipped body s
  | .undefMulSpace01 cond f1 f2 => Sys2Proof.Machine.execUndefMulSpace01 cond f1 f2 s
  | .undefSwapSpaceA cond f1 f2 f3 => Sys2Proof.Machine.execUndefSwapSpaceA cond f1 f2 f3 s
  | .undefSwapSpaceB cond f1 f2 f3 => Sys2Proof.Machine.execUndefSwapSpaceB cond f1 f2 f3 s
  | .undefSwapSpaceC cond f1 f2 => Sys2Proof.Machine.execUndefSwapSpaceC cond f1 f2 s
  | .undefMisc0001 cond f1 f2 f3 => Sys2Proof.Machine.execUndefMisc0001 cond f1 f2 f3 s
  | .undefMisc0010A cond f1 f2 f3 => Sys2Proof.Machine.execUndefMisc0010A cond f1 f2 f3 s
  | .undefMisc0010B cond f1 f2 => Sys2Proof.Machine.execUndefMisc0010B cond f1 f2 s
  | .undefMisc0011A cond f1 f2 f3 => Sys2Proof.Machine.execUndefMisc0011A cond f1 f2 f3 s
  | .undefMisc0011B cond f1 f2 => Sys2Proof.Machine.execUndefMisc0011B cond f1 f2 s
  | .undefMisc0100 cond f1 f2 f3 => Sys2Proof.Machine.execUndefMisc0100 cond f1 f2 f3 s
  | .undefMisc0110 cond f1 f2 f3 => Sys2Proof.Machine.execUndefMisc0110 cond f1 f2 f3 s
  | .undefMisc0111A cond f1 f2 f3 => Sys2Proof.Machine.execUndefMisc0111A cond f1 f2 f3 s
  | .undefMisc0111B cond f1 f2 => Sys2Proof.Machine.execUndefMisc0111B cond f1 f2 s
  | .undefMsrImmSpace cond f1 f2 => Sys2Proof.Machine.execUndefMsrImmSpace cond f1 f2 s
  | .undefLsRegBit4 cond f1 f2 => Sys2Proof.Machine.execUndefLsRegBit4 cond f1 f2 s
  | .undefCpLsSpace cond body => Sys2Proof.Machine.execUndefCpLsSpace cond body s
  | .tLslImm imm rm rd => Sys2Proof.Machine.execTLslImm imm rm rd s
  | .tLsrImm imm rm rd => Sys2Proof.Machine.execTLsrImm imm rm rd s
  | .tAsrImm imm rm rd => Sys2Proof.Machine.execTAsrImm imm rm rd s
  | .tAddReg rm rn rd => Sys2Proof.Machine.execTAddReg rm rn rd s
  | .tSubReg rm rn rd => Sys2Proof.Machine.execTSubReg rm rn rd s
  | .tAddImm3 imm rn rd => Sys2Proof.Machine.execTAddImm3 imm rn rd s
  | .tSubImm3 imm rn rd => Sys2Proof.Machine.execTSubImm3 imm rn rd s
  | .tMovImm rd imm => Sys2Proof.Machine.execTMovImm rd imm s
  | .tCmpImm rd imm => Sys2Proof.Machine.execTCmpImm rd imm s
  | .tAddImm8 rd imm => Sys2Proof.Machine.execTAddImm8 rd imm s
  | .tSubImm8 rd imm => Sys2Proof.Machine.execTSubImm8 rd imm s
  | .tAnd rm rd => Sys2Proof.Machine.execTAnd rm rd s
  | .tEor rm rd => Sys2Proof.Machine.execTEor rm rd s
  | .tLslReg rm rd => Sys2Proof.Machine.execTLslReg rm rd s
  | .tLsrReg rm rd => Sys2Proof.Machine.execTLsrReg rm rd s
  | .tAsrReg rm rd => Sys2Proof.Machine.execTAsrReg rm rd s
  | .tAdc rm rd => Sys2Proof.Machine.execTAdc rm rd s
  | .tSbc rm rd => Sys2Proof.Machine.execTSbc rm rd s
  | .tRor rm rd => Sys2Proof.Machine.execTRor rm rd s
  | .tTst rm rd => Sys2Proof.Machine.execTTst rm rd s
  | .tNeg rm rd => Sys2Proof.Machine.execTNeg rm rd s
  | .tCmpReg rm rd => Sys2Proof.Machine.execTCmpReg rm rd s
  | .tCmn rm rd => Sys2Proof.Machine.execTCmn rm rd s
  | .tOrr rm rd => Sys2Proof.Machine.execTOrr rm rd s
  | .tMul rm rd => Sys2Proof.Machine.execTMul rm rd s
  | .tBic rm rd => Sys2Proof.Machine.execTBic rm rd s
  | .tMvn rm rd => Sys2Proof.Machine.execTMvn rm rd s
  | .tAddHi h1 h2 rm rd => Sys2Proof.Machine.execTAddHi h1 h2 rm rd s
  | .tCmpHi h1 h2 rm rd => Sys2Proof.Machine.execTCmpHi h1 h2 rm rd s
  | .tMovHi h1 h2 rm rd => Sys2Proof.Machine.execTMovHi h1 h2 rm rd s
  | .tBx h2 rm sbz => Sys2Proof.Machine.execTBx h2 rm sbz s
  | .tBlxReg h2 rm sbz => Sys2Proof.Machine.execTBlxReg h2 rm sbz s
  | .tAddPc rd imm => Sys2Proof.Machine.execTAddPc rd imm s
  | .tAddSp rd imm => Sys2Proof.Machine.execTAddSp rd imm s
  | .tAddSpImm imm => Sys2Proof.Machine.execTAddSpImm imm s
  | .tSubSpImm imm => Sys2Proof.Machine.execTSubSpImm imm s
  | .tLdrPc rd imm => Sys2Proof.Machine.execTLdrPc rd imm s
  | .tStrReg rm rn rd => Sys2Proof.Machine.execTStrReg rm rn rd s
  | .tStrhReg rm rn rd => Sys2Proof.Machine.execTStrhReg rm rn rd s
  | .tStrbReg rm rn rd => Sys2Proof.Machine.execTStrbReg rm rn rd s
  | .tLdrsbReg rm rn rd => Sys2Proof.Machine.execTLdrsbReg rm rn rd s
  | .tLdrReg rm rn rd => Sys2Proof.Machine.execTLdrReg rm rn rd s
  | .tLdrhReg rm rn rd => Sys2Proof.Machine.execTLdrhReg rm rn rd s
  | .tLdrbReg rm rn rd => Sys2Proof.Machine.execTLdrbReg rm rn rd s
  | .tLdrshReg rm rn rd => Sys2Proof.Machine.execTLdrshReg rm rn rd s
  | .tStrImm imm rn rd => Sys2Proof.Machine.execTStrImm imm rn rd s
  | .tLdrImm imm rn rd => Sys2Proof.Machine.execTLdrImm imm rn rd s
  | .tStrbImm imm rn rd => Sys2Proof.Machine.execTStrbImm imm rn rd s
  | .tLdrbImm imm rn rd => Sys2Proof.Machine.execTLdrbImm imm rn rd s
  | .tStrhImm imm rn rd => Sys2Proof.Machine.execTStrhImm imm rn rd s
  | .tLdrhImm imm rn rd => Sys2Proof.Machine.execTLdrhImm imm rn rd s
  | .tStrSp rd imm => Sys2Proof.Machine.execTStrSp rd imm s
  | .tLdrSp rd imm => Sys2Proof.Machine.execTLdrSp rd imm s
  | .tPush r list => Sys2Proof.Machine.execTPush r list s
  | .tPop r list => Sys2Proof.Machine.execTPop r list s
  | .tBkpt imm => Sys2Proof.Machine.execTBkpt imm s
  | .tStmia rn list => Sys2Proof.Machine.execTStmia rn list s
  | .tLdmia rn list => Sys2Proof.Machine.execTLdmia rn list s
  | .tBCond cond imm => Sys2Proof.Machine.execTBCond cond imm s
  | .tSwi imm => Sys2Proof.Machine.execTSwi imm s
  | .tB imm => Sys2Proof.Machine.execTB imm s
  | .tBlxSuffix imm => Sys2Proof.Machine.execTBlxSuffix imm s
  | .tBlPrefix imm => Sys2Proof.Machine.execTBlPrefix imm s
  | .tBlSuffix imm => Sys2Proof.Machine.execTBlSuffix imm s
  | .tUndefB1 body => Sys2Proof.Machine.execTUndefB1 body s
  | .tUndefB2B3 body => Sys2Proof.Machine.execTUndefB2B3 body s
  | .tUndefB6B7 body => Sys2Proof.Machine.execTUndefB6B7 body s
  | .tUndefB8Bb body => Sys2Proof.Machine.execTUndefB8Bb body s
  | .tUndefBf body => Sys2Proof.Machine.execTUndefBf body s
  | .tUndefCondE body => Sys2Proof.Machine.execTUndefCondE body s
  | .tUndefBlxOdd body => Sys2Proof.Machine.execTUndefBlxOdd body s

end Sys2Proof.Machine
end

