-- ==== Sys2Proof/Machine/Engine.lean ====
section
/-! DEFINITION. The engine around the instructions: one step (spec/40_pipeline.md R420-R424), the burst loop (R430-R434),
the scheduler's pass and the frame driver (spec/60_exceptions.md R1213-R1221), resets (R1112, spec/70_reset_and_hazards.md
R1300) and the host's actions (R1250). -/

namespace Sys2Proof.Machine

/-! ### One instruction (R420, R421) -/

/-- The step before its dispatch (R420, R421): the program counter advanced, the slots shifted, the next fetch made. -/
def advance (s : State) : State :=
  let n := instrWidth s
  let a := reg s 15#4 + n.size
  let t := { setReg s 15#4 a with curInstr := s.slot0, slot0 := s.slot1 }
  let x := if flagT s then fetchThumbNext t a else fetchCode t a .word true
  { x.2 with slot1 := x.1 }

/-- The instruction in `cur_instr`, decoded for the state's width (R422, R423). -/
def curDecoded (s : State) : Instr :=
  if flagT s then decodeThumb (s.curInstr.setWidth 16) else decodeArm s.curInstr

/-- What R234's draw needs of an instruction that stored to the halfword at A + 6 and went on in sequence: the
address and the old halfword. `s` is the state it executed in. -/
def noteThumbStore (s t : State) : State :=
  if flagT s && flagT t && reg t 15#4 == reg s 15#4 then
    let a := reg s 15#4 + 2#32
    match peekHalf s a, peekHalf t a with
    | some old, some new => if old = new then t else { t with thumbStale := some (a, old) }
    | _, _ => t
  else t

/-- `StepARM` and `StepThumb` (R420, R421): the dispatch of the advanced state's instruction. -/
def stepInstr (s : State) : Out :=
  match exec (curDecoded (advance s)) (advance s) with
  | .next t => .next (noteThumbStore (advance s) t)
  | .fault f => .fault f
  | .refused r => .refused r

/-! ### The burst loop (R430-R432) -/

/-- The interrupt test and the time advance that end an iteration (R430). -/
def endIteration (t : State) : State :=
  let u := if t.irqLine && !flagI t then dispatchIrq t else t
  { u with now := u.now + u.cycles, cycles := 0 }

/-- One iteration of the loop (R430): whether a halt level set by the step ended the burst (R432), and the state. -/
def iteration (s : State) : Host.Outcome (Bool × State) Fault Refusal :=
  match stepInstr s with
  | .next t => if t.halt = .none then .next (false, endIteration t) else .next (true, t)
  | .fault f => .fault f
  | .refused r => .refused r

/-- `BurstStart` (R431): the state in which the burst runs, none where an indefinite halt has no interrupt. -/
def burstStart (s : State) : Option State :=
  match s.halt with
  | .none => some s
  | .singleShot => some { s with halt := .none }
  | .indefinite =>
    if s.irqLine then
      some (if flagI s then { s with halt := .none } else dispatchIrq { s with halt := .none })
    else none

/-- Time moved up to a target (R431, R432). -/
def waitUntil (s : State) (target : Nat) : State := { s with now := max s.now target }

/-- The loop of `Execute` (R430). Every iteration advances time, so `target - now` iterations suffice. -/
def executeLoop : Nat → State → Nat → State
  | 0, s, _ => s
  | n + 1, s, target =>
    if s.now < target then
      match iteration s with
      | .next (false, t) => executeLoop n t target
      | .next (true, t) => if t.halt = .indefinite then waitUntil t target else t
      | .fault f => { s with faulted := some f }
      | .refused _ => s
    else s

/-- `Execute(target)` (R430): one burst; a faulted state does nothing (R426). -/
def execute (s : State) (target : Nat) : State :=
  match s.faulted with
  | some _ => s
  | none =>
    match burstStart s with
    | none => waitUntil s target
    | some t => executeLoop (target - t.now) t target

/-- One step of the machine: a burst of one iteration (notes/assumptions/18.md). A faulted state has no step (R426). -/
def stepMachine (s : State) : Out :=
  match s.faulted with
  | some f => .fault f
  | none =>
    match burstStart s with
    | none => .next s
    | some t =>
      match iteration t with
      | .next x => .next x.2
      | .fault f => .fault f
      | .refused r => .refused r

/-! ### Callbacks, the scheduler's pass and the frame driver (R1213-R1220) -/

/-- One action of a scheduler callback (R1216). -/
def runCallbackAction (s : State) : CallbackAction → State
  | .call c => runCall s c
  | .read a n => (busRead s a n.bytes).2
  | .write a n v => busWrite s a n.bytes v

/-- A callback invoked with its parameter (R1213): its actions are the next script's, none where no script is left
(notes/assumptions/24.md). -/
def runCallback (s : State) (ref : Option Nat) (param : Word) : State :=
  let l := s.inputs.callbacks.headD []
  l.foldl runCallbackAction { s with
    inputs := { s.inputs with callbacks := s.inputs.callbacks.tail }
    activity := s.activity ++ [.callback ref param l] }

/-- One id of a pass (R1213): it fires where it was pending at the start, still is, was not scheduled in the
pass, and is due. -/
def fireEvent (start : List Nat) (time : Nat) (s : State) (id : Nat) : State :=
  match eventSlot s id with
  | some e =>
    if start.contains id && e.pending && !(s.sched.scheduledInPass.getD []).contains id && e.time ≤ time then
      runCallback (updateSlot s id fun e => { e with pending := false }) e.cb e.param
    else s
  | none => s

/-- `RunSystem(t)` (R1213). -/
def runSystem (s : State) (time : Nat) : State :=
  let start := (s.sched.slots.filter fun e => e.pending).map fun e => e.id
  let t := { s with sched := { s.sched with sysTime := time, scheduledInPass := some [] } }
  let u := (s.sched.slots.map fun e => e.id).foldl (fireEvent start time) t
  { u with sched := { u.sched with scheduledInPass := none } }

/-- The calls the timers may make (R1250, H-TIMERS): H-IRQ, H-SCHED and H-CANCEL. -/
def timerMay : Call → Bool
  | .irq _ => true
  | .sched _ _ _ _ _ => true
  | .cancel _ => true
  | .ack _ => false
  | .ctl _ _ => false
  | .halt1 => false

/-- `AdvanceTimers(delta)` (R1220, D51): the timers are told the time that has passed, and their calls are the next
script's, none where no script is left (notes/assumptions/15.md). -/
def advanceTimers (s : State) (delta : Nat) : State :=
  let l := (s.inputs.timers.headD []).filter timerMay
  runCalls { s with
    inputs := { s.inputs with timers := s.inputs.timers.tail }
    activity := s.activity ++ [.timers delta l] } l

/-- The body of `RunFrame`'s loop (R1220). -/
def frameBody (s : State) : State :=
  let before := s.now
  let t := execute s (nextWakeTime s)
  match t.faulted with
  | some _ => t
  | none => runSystem (advanceTimers t (t.now - before)) t.now

/-- The loop of `RunFrame` (R1220), tested after each iteration; none where `fuel` iterations do not end it. -/
def frameLoop : Nat → Nat → State → Option State
  | 0, _, _ => none
  | n + 1, start, s =>
    let t := frameBody s
    if t.faulted.isSome || start + s.params.frameCycles < t.now then some t else frameLoop n start t

/-- `RunFrame()` (R1220) within `fuel` iterations. -/
def runFrame (fuel : Nat) (s : State) : Option State :=
  match s.faulted with
  | some _ => some s
  | none =>
    (frameLoop fuel s.now { s with activity := [] }).map fun t =>
      match t.faulted with
      | some _ => t
      | none => { t with frameCount := t.frameCount + 1, lagFrame := Config.lagFrame t.activity }

/-! ### Resets (R1112, R1300) -/

/-- The soft reset (R1112): R14_svc is a draw (D44). -/
def softReset (s : State) : State :=
  enterException { s with draws := s.draws + 1 } .reset (Config.softResetLink s.draws)

/-- Every element of the block before the first fetch of a core reset (R1300). -/
def clearedBlock (s : State) : State :=
  { s with
    regs := Vector.replicate 16 0#32
    bankFiq := Vector.replicate 7 0#32
    bankSvc := Vector.replicate 2 0#32
    bankAbt := Vector.replicate 2 0#32
    bankIrq := Vector.replicate 2 0#32
    bankUnd := Vector.replicate 2 0#32
    spsrFiq := s.params.resetSpsr
    spsrSvc := s.params.resetSpsr
    spsrAbt := s.params.resetSpsr
    spsrIrq := s.params.resetSpsr
    spsrUnd := s.params.resetSpsr
    cpsr := 0x000000D3#32
    slot0 := 0#32
    slot1 := 0#32
    curInstr := 0#32
    codeCycles := 0
    dataCycles := 0
    cycles := 0
    now := 0
    halt := .none
    irqLine := false
    ctrl := s.params.ctrlReset
    exceptionBase := vectorBase s.params.ctrlReset
    ic := Vector.replicate 64 CacheSet.empty
    icRng := Config.rngSeed
    intc := { ctl := Vector.replicate 40 0#8, pending := 0#64, latched := none,
              threshold := s.params.thresholdReset.val }
    sched := { slots := s.params.eventIds.map EventSlot.fresh, sysTime := 0, scheduledInPass := none }
    frameCount := 0
    lagFrame := false
    faulted := none
    dataCosts := []
    thumbStale := none
    activity := [] }

/-- `CoreReset()` (R1300): the cleared block, then the first fetch. Memory is not reset. -/
def coreReset (s : State) : State := jumpTo (clearedBlock s) s.params.resetPc

/-! ### The host (R1250) -/

/-- A byte written by the loader (R1250, H-MEM): the storage of flat memory. -/
def loaderWrite (s : State) (c : Word × Byte) : State :=
  match flatRegion s.params c.1 with
  | some f => { s with mem := s.mem.write (storageKey f c.1) c.2 }
  | none => s

/-- What the outside may do to the block (R1250). -/
inductive HostAction where
  | reset
  | frame (fuel : Nat)
  | run (target : Nat)
  | softReset
  | call (c : Call)
  | fill
  | memory (bytes : List (Word × Byte))
  deriving DecidableEq, Repr

/-- A host action (R1250); it does nothing to a faulted state (R426). None where a frame's fuel runs out. -/
def hostAct (a : HostAction) (s : State) : Option State :=
  match s.faulted with
  | some _ => some s
  | none =>
    match a with
    | .reset => some (coreReset s)
    | .frame fuel => runFrame fuel s
    | .run target =>
      let t := execute s target
      match t.faulted with
      | some _ => some t
      | none => some (runSystem t t.now)
    | .softReset => some (softReset s)
    | .call c => some (runCall s c)
    | .fill => some (fillPipeline s)
    | .memory bytes => some (bytes.foldl loaderWrite s)

/-! ### Placing an instruction -/

/-- The instruction bits placed where the next step takes its instruction, `slot0`, in the state of its width
(16 bits Thumb, else ARM), the address of the next instruction kept, the engine not halted. -/
def placeInstruction (s : State) (thumb : Bool) (w : Nat) : State :=
  let a := reg s 15#4 - (instrWidth s).size
  let t := { s with cpsr := setBit s.cpsr 5 thumb, halt := .none }
  if thumb then { setReg t 15#4 (a + 2#32) with slot0 := BitVec.ofNat 32 (w % 2 ^ 16) }
  else { setReg t 15#4 (alignWord a + 4#32) with slot0 := BitVec.ofNat 32 w }

end Sys2Proof.Machine
end

