-- ==== Sys2Proof/Machine/Step.lean ====
section
/-! DEFINITION. The step of the machine and the placing of an instruction, both as Engine.lean defines them. -/

namespace Sys2Proof.Machine

/-- One step (R420-R432). -/
def step (s : State) : Host.Outcome State Fault Refusal := stepMachine s

/-- The state with an instruction placed where the next step takes its instruction. -/
def State.withFetchWord (s : State) (nbits w : Nat) : State := placeInstruction s (nbits == 16) w

end Sys2Proof.Machine
end

