-- ==== Sys2Proof/Safety.lean ====
section
/-! DEFINITION. What claims are stated in: the end of a run and the hang (spec/60_exceptions.md R1251), the invariants of the
state (spec/10_state.md R111, R126, R135, R140; spec/20_memory.md R231, R247; spec/40_pipeline.md R405), and the frames: what an
instruction leaves unchanged. -/

namespace Sys2Proof.Machine

/-! ### The end of a run (R1251) -/

/-- How a launch chooses the end of a run (R1251, D67). -/
inductive RunEnd where
  | at (endPc : Word) (endT : Bool)
  | frames (n : Nat)
  deriving DecidableEq, Repr

/-- The state after `n` iterations of the frame driver's loop (R1220). -/
def afterIterations : Nat → State → State
  | 0, s => s
  | n + 1, s => afterIterations n (frameBody s)

/-- A hang (R1251): an indefinite halt with no event pending and no way for `irq_line` to become 1. "No way" is DESIGN
CHOICE, notes/assumptions/37.md: the signal is 0 at the start of every burst the frame driver can still make, with the
collaborators' input as it stands. -/
structure Hung (s : State) : Prop where
  unfaulted : s.faulted = none
  halted : s.halt = .indefinite
  quiet : ∀ e ∈ s.sched.slots, e.pending = false
  asleep : ∀ n, (afterIterations n s).irqLine = false

/-- The state is what a `RunFrame` of an unfaulted state ended in. -/
def afterFrame (t : State) : Prop := ∃ fuel s, s.faulted = none ∧ runFrame fuel s = some t

/-- A run ends at the first state of which this holds (R1251): the next instruction is at the chosen address in the
chosen state, not halted; or a `RunFrame` has ended and the frame counter is the chosen number. A faulted state and a
hang are never an end. -/
def ended (e : RunEnd) (t : State) : Prop :=
  t.faulted = none ∧ ¬ Hung t ∧
    match e with
    | .at pc thumb => reg t 15#4 - (instrWidth t).size = pc ∧ flagT t = thumb ∧ t.halt = .none
    | .frames n => afterFrame t ∧ t.frameCount = n

/-! ### Invariants -/

/-- The memory is in canonical form. -/
def memoryCanonical (s : State) : Prop := s.mem.wf = true

/-- CPSR.M is one of the seven modes (R111) and J reads 0 (R110). -/
def modeLegal (s : State) : Prop := validMode (curMode s) = true ∧ flagJ s = false

/-- `exception_base` is the one the control word selects (R126). -/
def vectorsDerived (s : State) : Prop := s.exceptionBase = vectorBase s.ctrl

/-- The program counter is aligned for the state (R231, R405). -/
def pcAligned (s : State) : Prop :=
  (reg s 15#4).getLsbD 0 = false ∧ (flagT s = false → (reg s 15#4).getLsbD 1 = false)

/-- Bits 40..63 of `pending` are 0 (R135). -/
def pendingBounded (s : State) : Prop := ∀ i, 40 ≤ i → s.intc.pending.getLsbD i = false

/-- No set holds two valid ways with the same tag (R247). -/
def tagsDistinct (s : State) : Prop :=
  ∀ (i : Fin 64) (v w : Fin 4), ((s.ic.get i).lines.get v).valid = true → ((s.ic.get i).lines.get w).valid = true →
    ((s.ic.get i).lines.get v).tag = ((s.ic.get i).lines.get w).tag → v = w

/-- The event slots are those of `EVENT_IDS`, in ascending order of the ids, none twice (R140, R1213, D38). -/
def slotsAscending (s : State) : Prop :=
  s.sched.slots.map (fun e => e.id) = s.params.eventIds ∧ s.params.eventIds.Pairwise (· < ·)

/-- The invariant every step keeps. -/
structure Inv (s : State) : Prop where
  memory : memoryCanonical s
  mode : modeLegal s
  vectors : vectorsDerived s
  pc : pcAligned s
  pending : pendingBounded s
  tags : tagsDistinct s
  events : slotsAscending s

/-! ### Completion and frames -/

/-- The instruction answers a next state of which `P` holds. -/
def completes (i : Instr) (s : State) (P : State → Prop) : Prop := ∃ t, exec i s = .next t ∧ P t

/-- The instruction stops by name. -/
def stops (i : Instr) (s : State) : Prop := ∃ f, exec i s = .fault f

/-- Every register outside the list is unchanged, the program counter too unless listed. -/
def keepsRegs (l : List Reg) (s t : State) : Prop := ∀ i, i ∉ l → reg t i = reg s i

/-- Every status bit outside the list is unchanged. -/
def keepsStatus (bits : List Nat) (s t : State) : Prop := ∀ i, i ∉ bits → t.cpsr.getLsbD i = s.cpsr.getLsbD i

/-- Every byte of memory outside the listed storage keys is unchanged. -/
def keepsBytes (keys : List Nat) (s t : State) : Prop := ∀ k, k ∉ keys → t.mem.read k = s.mem.read k

/-- The bank stores are unchanged. -/
structure KeepsBanks (s t : State) : Prop where
  fiq : t.bankFiq = s.bankFiq
  svc : t.bankSvc = s.bankSvc
  abt : t.bankAbt = s.bankAbt
  irq : t.bankIrq = s.bankIrq
  und : t.bankUnd = s.bankUnd

/-- The saved statuses of the banks outside the list are unchanged. -/
def keepsSpsr (l : List BankMode) (s t : State) : Prop := ∀ b, b ∉ l → bankSpsr t b = bankSpsr s b

/-- The control word, the vector base, time, the frame driver, the fault mark and the parameters are unchanged. -/
structure KeepsSystem (s t : State) : Prop where
  ctrl : t.ctrl = s.ctrl
  exceptionBase : t.exceptionBase = s.exceptionBase
  now : t.now = s.now
  frameCount : t.frameCount = s.frameCount
  lagFrame : t.lagFrame = s.lagFrame
  faulted : t.faulted = s.faulted
  params : t.params = s.params
  curInstr : t.curInstr = s.curInstr

/-- The instruction cache and its victim generator are unchanged. -/
structure KeepsCache (s t : State) : Prop where
  ic : t.ic = s.ic
  icRng : t.icRng = s.icRng

/-- The interrupt controller and signal, the scheduler, the halt level and the collaborators' input are unchanged. -/
structure KeepsDevices (s t : State) : Prop where
  intc : t.intc = s.intc
  irqLine : t.irqLine = s.irqLine
  sched : t.sched = s.sched
  halt : t.halt = s.halt
  inputs : t.inputs = s.inputs
  draws : t.draws = s.draws
  activity : t.activity = s.activity

/-- The frame of an instruction that makes no jump and no device access: nothing changes but the listed registers,
status bits and bytes of memory, and the cost counters. -/
structure Frame (regs : List Reg) (bits : List Nat) (keys : List Nat) (s t : State) : Prop where
  regs : keepsRegs regs s t
  status : keepsStatus bits s t
  bytes : keepsBytes keys s t
  banks : KeepsBanks s t
  spsr : keepsSpsr [] s t
  system : KeepsSystem s t
  cache : KeepsCache s t
  devices : KeepsDevices s t
  slots : t.slot0 = s.slot0 ∧ t.slot1 = s.slot1

/-- Every address is directly mapped: no access reaches a peripheral. -/
def allFlat (p : Params) : Prop := ∀ a, (flatRegion p a).isSome = true

/-- The frame of a jump (R410): nothing changes but the listed registers (the program counter among them), the listed
status bits (T among them), the prefetch slots, the cost counters, the cache where caching is active, and what
a peripheral does when it is fetched from. -/
structure JumpFrame (regs : List Reg) (bits : List Nat) (s t : State) : Prop where
  regs : keepsRegs regs s t
  status : keepsStatus bits s t
  bytes : keepsBytes [] s t
  banks : KeepsBanks s t
  spsr : keepsSpsr [] s t
  system : KeepsSystem s t
  cache : cachingActive s = false → KeepsCache s t
  devices : allFlat s.params → KeepsDevices s t

/-- The program counter and the state after a jump to a value (R410): bit 0 selects Thumb, and `x[15]` leads the
target by one width. -/
def jumpedTo (v : Word) (t : State) : Prop :=
  flagT t = v.getLsbD 0 ∧
    reg t 15#4 = if v.getLsbD 0 then alignHalf v + 2#32 else alignWord v + 4#32

/-- The exception `k` has been entered from `s` with return address `ret` (R1103, R1104): status saved, mode and
masks set, banks exchanged, R14 the return address, the handler next in ARM state. -/
structure Entered (k : Exc) (ret : Word) (s t : State) : Prop where
  saved : bankSpsr t (excBank k) = s.cpsr
  otherSpsr : keepsSpsr [excBank k] s t
  mode : curMode t = bankMode (excBank k)
  armState : flagT t = false
  irqMasked : flagI t = true
  fiqMask : flagF t = (excMasksF s.params k || flagF s)
  jazelle : flagJ t = false
  otherBits : ∀ i, i ∉ [0, 1, 2, 3, 4, 5, 6, 7, 24] → t.cpsr.getLsbD i = s.cpsr.getLsbD i
  link : reg t 14#4 = ret
  pc : reg t 15#4 = alignWord (s.exceptionBase + excOffset k) + 4#32
  regs : ∀ i, i ∉ [14#4, 15#4] → reg t i = reg (switchMode s (curMode s) (bankMode (excBank k))) i
  banks : KeepsBanks (switchMode s (curMode s) (bankMode (excBank k))) t
  bytes : keepsBytes [] s t
  system : KeepsSystem s t
  cache : cachingActive s = false → KeepsCache s t
  devices : allFlat s.params → KeepsDevices s t

/-- An access of one width at an address is to flat memory `f` and does not abort. -/
def flatAccess (s : State) (f : Word × Nat) (a : Word) (n : Width) (isWrite : Bool) : Prop :=
  flatRegion s.params a = some f ∧ busAbort s.params a n isWrite = false

/-- The region's mask keeps an address's low three bits, so that the bytes of an aligned access are distinct (R202). -/
def lowBitsKept (f : Word × Nat) : Prop := f.1 &&& 7#32 = 7#32

/-- The word stored at an address of flat memory, little-endian (R205). -/
def wordAt (s : State) (f : Word × Nat) (a : Word) : Word := flatRead s.mem f a 4

end Sys2Proof.Machine
end

