-- ==== Sys2Proof/Certificates/Slice0/Obligations.lean ====
section
/-! DEFINITION. The statements for the provers, each `Obligations.<Name>`, and the vocabulary they share. `s` is the state
an instruction executes in: `x[15]` is two widths past its address (spec/40_pipeline.md R405). -/

namespace Sys2Proof.Claims

open Sys2Proof Sys2Proof.Machine

/-! ### Conditions and costs -/

/-- The condition holds of the flags (R403). -/
def passes (s : State) (cond : BitVec 4) : Prop := checkCondition s cond = true

/-- The instruction's condition field, where it has one, holds; a Thumb instruction has none (R401, R422). -/
def allowed (i : Instr) (s : State) : Prop := ∀ c, i.armCond = some c → passes s c

/-- The "true when" column of the condition table (R402). -/
def condHolds (c : BitVec 4) (n z cf v : Bool) : Bool :=
  match c.toNat with
  | 0 => z
  | 1 => !z
  | 2 => cf
  | 3 => !cf
  | 4 => n
  | 5 => !n
  | 6 => v
  | 7 => !v
  | 8 => cf && !z
  | 9 => !cf || z
  | 10 => n == v
  | 11 => n != v
  | 12 => !z && n == v
  | 13 => z || n != v
  | 14 => true
  | _ => false

/-- The state a skipped instruction leaves: the fetch charged and nothing else changed (R422). -/
def skipped (s : State) : State := { s with cycles := s.cycles + s.codeCycles }

/-- N and Z of a result (R512). -/
def leavesNZ (t : State) (r : Word) : Prop := flagN t = r.getLsbD 31 ∧ flagZ t = decide (r = 0#32)

/-! ### Data processing -/

/-- The second operand of a data-processing instruction, as encoded (R500). -/
inductive Operand2 where
  | immShift (imm : BitVec 5) (st : BitVec 2) (rm : Reg)
  | regShift (rs : Reg) (st : BitVec 2) (rm : Reg)
  | imm (rot : BitVec 4) (imm : BitVec 8)
  deriving DecidableEq, Repr

/-- The instruction of a function and an operand form. `rd` stands for the should-be-zero field of a compare, `rn` for
that of a move, and a compare has no S field (R513). -/
def dpInstr (op : DpOp) (cond : BitVec 4) (sf : Bool) (rn rd : Reg) : Operand2 → Instr
  | .immShift imm st rm =>
    match op with
    | .and => .andImmShift cond sf rn rd imm st rm
    | .eor => .eorImmShift cond sf rn rd imm st rm
    | .sub => .subImmShift cond sf rn rd imm st rm
    | .rsb => .rsbImmShift cond sf rn rd imm st rm
    | .add => .addImmShift cond sf rn rd imm st rm
    | .adc => .adcImmShift cond sf rn rd imm st rm
    | .sbc => .sbcImmShift cond sf rn rd imm st rm
    | .rsc => .rscImmShift cond sf rn rd imm st rm
    | .tst => .tstImmShift cond rn rd imm st rm
    | .teq => .teqImmShift cond rn rd imm st rm
    | .cmp => .cmpImmShift cond rn rd imm st rm
    | .cmn => .cmnImmShift cond rn rd imm st rm
    | .orr => .orrImmShift cond sf rn rd imm st rm
    | .mov => .movImmShift cond sf rn rd imm st rm
    | .bic => .bicImmShift cond sf rn rd imm st rm
    | .mvn => .mvnImmShift cond sf rn rd imm st rm
  | .regShift rs st rm =>
    match op with
    | .and => .andRegShift cond sf rn rd rs st rm
    | .eor => .eorRegShift cond sf rn rd rs st rm
    | .sub => .subRegShift cond sf rn rd rs st rm
    | .rsb => .rsbRegShift cond sf rn rd rs st rm
    | .add => .addRegShift cond sf rn rd rs st rm
    | .adc => .adcRegShift cond sf rn rd rs st rm
    | .sbc => .sbcRegShift cond sf rn rd rs st rm
    | .rsc => .rscRegShift cond sf rn rd rs st rm
    | .tst => .tstRegShift cond rn rd rs st rm
    | .teq => .teqRegShift cond rn rd rs st rm
    | .cmp => .cmpRegShift cond rn rd rs st rm
    | .cmn => .cmnRegShift cond rn rd rs st rm
    | .orr => .orrRegShift cond sf rn rd rs st rm
    | .mov => .movRegShift cond sf rn rd rs st rm
    | .bic => .bicRegShift cond sf rn rd rs st rm
    | .mvn => .mvnRegShift cond sf rn rd rs st rm
  | .imm rot imm =>
    match op with
    | .and => .andImm cond sf rn rd rot imm
    | .eor => .eorImm cond sf rn rd rot imm
    | .sub => .subImm cond sf rn rd rot imm
    | .rsb => .rsbImm cond sf rn rd rot imm
    | .add => .addImm cond sf rn rd rot imm
    | .adc => .adcImm cond sf rn rd rot imm
    | .sbc => .sbcImm cond sf rn rd rot imm
    | .rsc => .rscImm cond sf rn rd rot imm
    | .tst => .tstImm cond rn rd rot imm
    | .teq => .teqImm cond rn rd rot imm
    | .cmp => .cmpImm cond rn rd rot imm
    | .cmn => .cmnImm cond rn rd rot imm
    | .orr => .orrImm cond sf rn rd rot imm
    | .mov => .movImm cond sf rn rd rot imm
    | .bic => .bicImm cond sf rn rd rot imm
    | .mvn => .mvnImm cond sf rn rd rot imm

/-- The should-be-zero field of a compare or a move is zero (R513, R342). -/
def dpFieldsZero (op : DpOp) (rn rd : Reg) : Bool :=
  match op with
  | .tst | .teq | .cmp | .cmn => rd == 0#4
  | .mov | .mvn => rn == 0#4
  | _ => true

/-- R15 does not appear in a register-shift form (R511). -/
def operandLegal (rn rd : Reg) : Operand2 → Bool
  | .regShift rs _ rm => rd != 15#4 && rn != 15#4 && rm != 15#4 && rs != 15#4
  | .immShift _ _ _ => true
  | .imm _ _ => true

/-- The shifter's output for an operand form (R501-R510), which `ShifterByImmediate` and `ShifterByRegister` describe. -/
def operandOut (s : State) : Operand2 → ShiftOut
  | .immShift imm st rm => shiftedReg s st imm rm
  | .regShift rs st rm => regShiftedReg s st rs rm
  | .imm rot imm => shiftImmediate s rot imm

/-- The form writes the flags: S = 1, or a compare (R512, R513). -/
def dpSets (op : DpOp) (sf : Bool) : Bool := sf || !dpWrites op

/-- The status bits the form may write (R512). -/
def dpBits (op : DpOp) (sf : Bool) : List Nat :=
  if dpSets op sf then (if dpArithmetic op then [31, 30, 29, 28] else [31, 30, 29]) else []

/-- The result of a function of the first operand `a`, the second `b` and the carry flag (R520-R535). -/
def dpValue (op : DpOp) (a b : Word) (c : Bool) : Word :=
  let one : Word := if c then 1#32 else 0#32
  let borrow : Word := if c then 0#32 else 1#32
  match op with
  | .and | .tst => a &&& b
  | .eor | .teq => a ^^^ b
  | .sub | .cmp => a - b
  | .rsb => b - a
  | .add | .cmn => a + b
  | .adc => a + b + one
  | .sbc => a - b - borrow
  | .rsc => b - a - borrow
  | .orr => a ||| b
  | .mov => b
  | .bic => a &&& ~~~b
  | .mvn => ~~~b

/-- The exact signed result of an arithmetic function (R13). -/
def dpExact (op : DpOp) (a b : Word) (c : Bool) : Int :=
  let one : Int := if c then 1 else 0
  let borrow : Int := if c then 0 else 1
  match op with
  | .sub | .cmp => a.toInt - b.toInt
  | .rsb => b.toInt - a.toInt
  | .add | .cmn => a.toInt + b.toInt
  | .adc => a.toInt + b.toInt + one
  | .sbc => a.toInt - b.toInt - borrow
  | .rsc => b.toInt - a.toInt - borrow
  | _ => (dpValue op a b c).toInt

/-- The carry a flag-setting form leaves: the carry of a sum, the absence of a borrow, or the shifter's (R13, R512). -/
def dpCarryOut (op : DpOp) (a b : Word) (c sc : Bool) : Bool :=
  let one : Nat := if c then 1 else 0
  let borrow : Nat := if c then 0 else 1
  match op with
  | .sub | .cmp => decide (b.toNat ≤ a.toNat)
  | .rsb => decide (a.toNat ≤ b.toNat)
  | .add | .cmn => decide (2 ^ 32 ≤ a.toNat + b.toNat)
  | .adc => decide (2 ^ 32 ≤ a.toNat + b.toNat + one)
  | .sbc => decide (b.toNat + borrow ≤ a.toNat)
  | .rsc => decide (a.toNat + borrow ≤ b.toNat)
  | _ => sc

/-- The overflow an arithmetic form leaves: the exact result is not a 32-bit signed number (R13). -/
def dpOverflowOut (op : DpOp) (a b : Word) (c : Bool) : Bool :=
  decide (dpExact op a b c < -(2 ^ 31) ∨ 2 ^ 31 ≤ dpExact op a b c)

/-! ### Returning from an exception -/

/-- The status a return installs (R1120, R1121): the saved status with bit 4 set and J clear; in USR and SYS, the current
one with bit 4 set. -/
def returnStatus (s : State) : Word :=
  match bankOf (curMode s) with
  | some b => setBit (setBit (bankSpsr s b) 4 true) 24 false
  | none => setBit s.cpsr 4 true

/-- The state after a return to `v` (R410, R1120, R1122): status restored, banks exchanged, the width that of the
restored T. -/
structure ReturnsTo (v : Word) (s t : State) : Prop where
  status : t.cpsr = returnStatus s
  pc : reg t 15#4 = if (returnStatus s).getLsbD 5 then alignHalf v + 2#32 else alignWord v + 4#32
  regs : ∀ i, i ≠ 15#4 → reg t i = reg (switchMode s (curMode s) (modeOf (returnStatus s))) i
  banks : KeepsBanks (switchMode s (curMode s) (modeOf (returnStatus s))) t
  spsr : keepsSpsr [] s t
  bytes : keepsBytes [] s t
  system : KeepsSystem s t
  cache : cachingActive s = false → KeepsCache s t
  devices : allFlat s.params → KeepsDevices s t

/-- What a return to `v` does: it faults on an invalid restored mode (D60), then on an unaligned ARM target, else it
returns. -/
def returning (i : Instr) (v : Word) (s u : State) : Prop :=
  if validMode (modeOf (returnStatus u)) = false then exec i s = .fault .badMode
  else if (returnStatus u).getLsbD 5 = false ∧ v.extractLsb' 0 2 ≠ 0b00#2 then exec i s = .fault .unalignedArmReturn
  else completes i s (ReturnsTo v u)

/-- What an interworking write of `v` to the program counter does (R407): a target with bits 1:0 = 10 faults. `regs` are
the other registers the instruction writes. -/
def interworks (i : Instr) (v : Word) (regs : List Reg) (s : State) (P : State → Prop) : Prop :=
  if v.extractLsb' 0 2 = 0b10#2 then exec i s = .fault .interworkBits
  else completes i s fun t => JumpFrame (15#4 :: regs) [5] s t ∧ jumpedTo v t ∧ P t

/-! ### Loads and stores -/

/-- The offset of addressing mode 2, as encoded (R651). -/
inductive Offset2 where
  | imm (v : BitVec 12)
  | reg (imm : BitVec 5) (st : BitVec 2) (rm : Reg)
  deriving DecidableEq, Repr

/-- How an instruction of addressing mode 2 indexes (R651, R656): pre-indexed or offset, post-indexed, or a T form. -/
inductive Index2 where
  | pre (w : Bool)
  | post
  | translated
  deriving DecidableEq, Repr

/-- The instructions of addressing mode 2. -/
inductive Op2 where
  | ldr
  | ldrb
  | str
  | strb
  deriving DecidableEq, Repr

/-- The instruction of addressing mode 2 of an operation, an indexing and an offset. -/
def mode2Instr (op : Op2) (x : Index2) (cond : BitVec 4) (u : Bool) (rn rd : Reg) (off : Offset2) : Instr :=
  match op, x, off with
  | .ldr, .pre w, .imm v => .ldrImmPre cond u w rn rd v
  | .ldr, .post, .imm v => .ldrImmPost cond u rn rd v
  | .ldr, .translated, .imm v => .ldrtImm cond u rn rd v
  | .ldr, .pre w, .reg i st rm => .ldrRegPre cond u w rn rd i st rm
  | .ldr, .post, .reg i st rm => .ldrRegPost cond u rn rd i st rm
  | .ldr, .translated, .reg i st rm => .ldrtReg cond u rn rd i st rm
  | .ldrb, .pre w, .imm v => .ldrbImmPre cond u w rn rd v
  | .ldrb, .post, .imm v => .ldrbImmPost cond u rn rd v
  | .ldrb, .translated, .imm v => .ldrbtImm cond u rn rd v
  | .ldrb, .pre w, .reg i st rm => .ldrbRegPre cond u w rn rd i st rm
  | .ldrb, .post, .reg i st rm => .ldrbRegPost cond u rn rd i st rm
  | .ldrb, .translated, .reg i st rm => .ldrbtReg cond u rn rd i st rm
  | .str, .pre w, .imm v => .strImmPre cond u w rn rd v
  | .str, .post, .imm v => .strImmPost cond u rn rd v
  | .str, .translated, .imm v => .strtImm cond u rn rd v
  | .str, .pre w, .reg i st rm => .strRegPre cond u w rn rd i st rm
  | .str, .post, .reg i st rm => .strRegPost cond u rn rd i st rm
  | .str, .translated, .reg i st rm => .strtReg cond u rn rd i st rm
  | .strb, .pre w, .imm v => .strbImmPre cond u w rn rd v
  | .strb, .post, .imm v => .strbImmPost cond u rn rd v
  | .strb, .translated, .imm v => .strbtImm cond u rn rd v
  | .strb, .pre w, .reg i st rm => .strbRegPre cond u w rn rd i st rm
  | .strb, .post, .reg i st rm => .strbRegPost cond u rn rd i st rm
  | .strb, .translated, .reg i st rm => .strbtReg cond u rn rd i st rm

/-- The form writes its base back (R651): every post-indexed form does. -/
def mode2Writes : Index2 → Bool
  | .pre w => w
  | .post => true
  | .translated => true

/-- The form is pre-indexed: P = 1 (R651). -/
def mode2Pre : Index2 → Bool
  | .pre _ => true
  | .post => false
  | .translated => false

/-- The register combinations of addressing mode 2 that are not UNPREDICTABLE (R651). -/
def mode2Legal (x : Index2) (rn rd : Reg) (off : Offset2) : Bool :=
  (!mode2Writes x || (rn != 15#4 && rn != rd)) &&
    match off with
    | .imm _ => true
    | .reg _ _ rm => rm != 15#4 && (!mode2Writes x || rn != rm)

/-- The address of addressing mode 2 and the moved base (R651). -/
def mode2Addr (s : State) (x : Index2) (u : Bool) (rn : Reg) (off : Offset2) : Addr :=
  let o := match off with
    | .imm v => v.setWidth 32
    | .reg i st rm => (shiftedReg s st i rm).value
  indexed (mode2Pre x) u (mode2Writes x) (reg s rn) o

/-- The base register, where it is written back. -/
def baseList (wb : Bool) (rn : Reg) : List Reg := if wb then [rn] else []

/-- The base register holds the moved base, where it is written back (R650). -/
def basesMoved (wb : Bool) (rn : Reg) (moved : Word) (t : State) : Prop := wb = true → reg t rn = moved

/-- The offset of addressing mode 3, as encoded (R665). -/
inductive Offset3 where
  | imm (hi lo : BitVec 4)
  | reg (sbz : BitVec 4) (rm : Reg)
  deriving DecidableEq, Repr

/-- The instructions of addressing mode 3. -/
inductive Op3 where
  | ldrh
  | ldrsb
  | ldrsh
  | strh
  | ldrd
  | strd
  deriving DecidableEq, Repr

/-- The instruction of addressing mode 3 of an operation and an offset. -/
def mode3Instr (op : Op3) (cond : BitVec 4) (p u w : Bool) (rn rd : Reg) (off : Offset3) : Instr :=
  match op, off with
  | .ldrh, .imm h l => .ldrhImm cond p u w rn rd h l
  | .ldrh, .reg z rm => .ldrhReg cond p u w rn rd z rm
  | .ldrsb, .imm h l => .ldrsbImm cond p u w rn rd h l
  | .ldrsb, .reg z rm => .ldrsbReg cond p u w rn rd z rm
  | .ldrsh, .imm h l => .ldrshImm cond p u w rn rd h l
  | .ldrsh, .reg z rm => .ldrshReg cond p u w rn rd z rm
  | .strh, .imm h l => .strhImm cond p u w rn rd h l
  | .strh, .reg z rm => .strhReg cond p u w rn rd z rm
  | .ldrd, .imm h l => .ldrdImm cond p u w rn rd h l
  | .ldrd, .reg z rm => .ldrdReg cond p u w rn rd z rm
  | .strd, .imm h l => .strdImm cond p u w rn rd h l
  | .strd, .reg z rm => .strdReg cond p u w rn rd z rm

/-- The form writes its base back (R665). -/
def mode3Writes (p w : Bool) : Bool := !p || w

/-- The register combinations of addressing mode 3 that are not UNPREDICTABLE (R665). -/
def mode3Legal (p w : Bool) (rn rd : Reg) (off : Offset3) : Bool :=
  (p || !w) && (!mode3Writes p w || (rn != 15#4 && rn != rd)) &&
    match off with
    | .imm _ _ => true
    | .reg z rm => z == 0#4 && rm != 15#4

/-- The address of addressing mode 3 and the moved base (R665). -/
def mode3Addr (s : State) (p u w : Bool) (rn : Reg) (off : Offset3) : Addr :=
  indexed p u w (reg s rn) (match off with | .imm h l => (h ++ l).setWidth 32 | .reg _ rm => reg s rm)

/-- The register pair of LDRD and STRD is legal (R670, R671), and an LDRD's base and offset registers are outside it. -/
def pairLegal (load : Bool) (p w : Bool) (rn rd : Reg) (off : Offset3) : Bool :=
  !rd.getLsbD 0 && rd != 14#4 &&
    (!load || ((!mode3Writes p w || (rn != rd && rn != rd + 1#4)) &&
      match off with
      | .imm _ _ => true
      | .reg _ rm => rm != rd && rm != rd + 1#4))

/-- The byte stored at an address of flat memory. -/
def byteAt (s : State) (f : Word × Nat) (a : Word) : Byte := s.mem.read (storageKey f a)

/-- The halfword stored at an address of flat memory, little-endian (R205). -/
def halfAt (s : State) (f : Word × Nat) (a : Word) : Half := byteAt s f (a + 1#32) ++ byteAt s f a

/-- The word stored at an address of flat memory, little-endian (R205). -/
def word4At (s : State) (f : Word × Nat) (a : Word) : Word :=
  byteAt s f (a + 3#32) ++ byteAt s f (a + 2#32) ++ byteAt s f (a + 1#32) ++ byteAt s f a

/-- The bytes of an access are distinct storage (R202). -/
def distinctBytes (f : Word × Nat) (a : Word) (n : Nat) : Prop := (accessKeys f a n).Nodup

/-- The `k` words from `a` up are flat memory and reading them does not abort. -/
def wordsReadable (s : State) (a : Word) (k : Nat) : Prop :=
  ∀ j, j < k → ∃ f, flatAccess s f (a + BitVec.ofNat 32 (4 * j)) .word false

/-- The word at a readable address, in the region that holds it. -/
def wordFrom (s : State) (a : Word) : Word :=
  match flatRegion s.params a with
  | some f => word4At s f a
  | none => 0#32

/-- The `k` words from `a` up are in flat memory `f`, writing them does not abort, and their bytes are distinct. -/
def wordsWritable (s : State) (f : Word × Nat) (a : Word) (k : Nat) : Prop :=
  (∀ j, j < k → flatAccess s f (a + BitVec.ofNat 32 (4 * j)) .word true) ∧
    ((List.range k).flatMap fun j => accessKeys f (a + BitVec.ofNat 32 (4 * j)) 4).Nodup

/-- The storage of the `k` words from `a` up. -/
def wordsKeys (f : Word × Nat) (a : Word) (k : Nat) : List Nat :=
  (List.range k).flatMap fun j => accessKeys f (a + BitVec.ofNat 32 (4 * j)) 4

/-- The registers of a list. -/
def listRegs {m : Nat} (list : BitVec m) : List Reg := (listed list).map fun i => BitVec.ofNat 4 i

/-- The j-th listed register, ascending, holds the j-th word from `a` up (R680, D57). -/
def loadsList {m : Nat} (list : BitVec m) (s : State) (a : Word) (t : State) : Prop :=
  ∀ j i, (listed list)[j]? = some i → reg t (BitVec.ofNat 4 i) = wordFrom s (a + BitVec.ofNat 32 (4 * j))

/-- The j-th word from `a` up holds `get` of the j-th listed register, ascending (R680, D57). -/
def storesList {m : Nat} (list : BitVec m) (f : Word × Nat) (a : Word) (get : Reg → Word) (t : State) : Prop :=
  ∀ j i, (listed list)[j]? = some i → word4At t f (a + BitVec.ofNat 32 (4 * j)) = get (BitVec.ofNat 4 i)

/-- The start and the written-back base of a multiple transfer of `k` registers from the base `b` (R680): IA, IB, DA
and DB. -/
def transferPair (p u : Bool) (b : Word) (k : Nat) : Word × Word :=
  let n := BitVec.ofNat 32 (4 * k)
  match p, u with
  | false, true => (b, b + n)
  | true, true => (b + 4#32, b + n)
  | false, false => (b - n + 4#32, b - n)
  | true, false => (b - n, b - n)

/-- The lowest address of a multiple transfer (R680): the start with its low two bits cleared. -/
def multipleStart (s : State) (p u : Bool) (rn : Reg) (k : Nat) : Word := alignWord (transferPair p u (reg s rn) k).1

/-- The written-back base of a multiple transfer (R680). -/
def multipleEnd (s : State) (p u : Bool) (rn : Reg) (k : Nat) : Word := (transferPair p u (reg s rn) k).2

/-- What STR and STM store for a register (R650, D45): R15 as the instruction's address, two widths before `x[15]`, plus
8 or 12 as `STORE_PC_OFFSET` says. -/
def storedValue (s : State) (i : Reg) : Word :=
  if i = 15#4 then
    (if flagT s then reg s 15#4 - 4#32 else reg s 15#4 - 8#32) +
      (match s.params.storePc with | .eight => 8#32 | .twelve => 12#32)
  else reg s i

/-- The first `j` registers of a list, in the order of their transfer (R680). -/
def firstRegs {m : Nat} (list : BitVec m) (j : Nat) : List Reg := (listRegs list).take j

/-- The first `j` listed registers hold the words from `a` up (R680). -/
def loadsFirst {m : Nat} (list : BitVec m) (j : Nat) (s : State) (a : Word) (t : State) : Prop :=
  ∀ n i, n < j → (listed list)[n]? = some i → reg t (BitVec.ofNat 4 i) = wordFrom s (a + BitVec.ofNat 32 (4 * n))

/-- The first `j` words from `a` up hold `get` of the first `j` listed registers (R680). -/
def storesFirst {m : Nat} (list : BitVec m) (j : Nat) (f : Word × Nat) (a : Word) (get : Reg → Word) (t : State) : Prop :=
  ∀ n i, n < j → (listed list)[n]? = some i →
    word4At t f (a + BitVec.ofNat 32 (4 * n)) = get (BitVec.ofNat 4 i)

/-- The frame of a load of user registers (R107, R682) in a mode with bank `c`: the listed user registers may have
changed, in the bank where the mode banks them and in the live file where it does not, and nothing else. -/
structure UserFrame (c : BankMode) (l : List Reg) (s t : State) : Prop where
  user : ∀ i, i ∉ l → userReg t i = userReg s i
  live : ∀ i, (bankReg s c i).isSome = true ∨ i ∉ l → reg t i = reg s i
  otherBanks : ∀ b i, b ≠ c → bankReg t b i = bankReg s b i
  status : t.cpsr = s.cpsr
  spsr : keepsSpsr [] s t
  bytes : keepsBytes [] s t
  system : KeepsSystem s t
  cache : KeepsCache s t
  devices : KeepsDevices s t

end Sys2Proof.Claims

namespace Sys2Proof.Claims

open Sys2Proof Sys2Proof.Machine

/-! ### UNPREDICTABLE forms -/

/-- The first of a list of cases that holds. -/
def firstOf (l : List (Bool × Fault)) : Option Fault := (l.find? fun c => c.1).map fun c => c.2

/-- The UNPREDICTABLE cases of the long multiplies (R603). -/
def longCases (rdHi rdLo rs rm : Reg) : List (Bool × Fault) :=
  [(rdHi == 15#4 || rdLo == 15#4 || rm == 15#4 || rs == 15#4, .multiplyR15), (rdHi == rdLo, .longSamePair),
    (rdHi == rm || rdLo == rm, .longPairRm)]

/-- The UNPREDICTABLE cases of a 16-bit list and its base (R680). -/
def listCases (rn : Reg) (list : BitVec 16) : List (Bool × Fault) :=
  [(list == 0#16, .emptyList), (rn == 15#4, .multipleBasePc)]

/-- The UNPREDICTABLE cases of SWP and SWPB (R700). -/
def swapCases (rn rd : Reg) (sbz : BitVec 4) (rm : Reg) : List (Bool × Fault) :=
  [(sbz != 0#4, .shouldBe), (rd == 15#4 || rm == 15#4 || rn == 15#4, .swapR15), (rn == rm || rn == rd, .swapBase)]

/-- The UNPREDICTABLE cases of the saturating instructions (R550). -/
def saturateCases (rn rd : Reg) (sbz : BitVec 4) (rm : Reg) : List (Bool × Fault) :=
  [(sbz != 0#4, .shouldBe), (rd == 15#4 || rm == 15#4 || rn == 15#4, .saturateR15)]

/-- The cases of spec/93_implementation_defined.md section 1 that the operands of an instruction decide alone, first
the one its rule reaches first. The data-processing, mode 2 and mode 3 forms are stated with their own vocabulary. -/
def unpredictableForm : Instr → Option Fault
  | .mrs _ _ sbo rd sbz1 sbz2 => firstOf [(sbo != 0xF#4 || sbz1 != 0#4 || sbz2 != 0#4, .shouldBe), (rd == 15#4, .mrsToPc)]
  | .msrReg _ _ _ sbo sbz rm => firstOf [(sbo != 0xF#4 || sbz != 0#4, .shouldBe), (rm == 15#4, .msrFromPc)]
  | .msrImm _ _ _ sbo _ _ => firstOf [(sbo != 0xF#4, .shouldBe)]
  | .clz _ sbo1 rd sbo2 rm => firstOf [(sbo1 != 0xF#4 || sbo2 != 0xF#4, .shouldBe), (rd == 15#4 || rm == 15#4, .clzR15)]
  | .qadd _ rn rd sbz rm => firstOf (saturateCases rn rd sbz rm)
  | .qsub _ rn rd sbz rm => firstOf (saturateCases rn rd sbz rm)
  | .qdadd _ rn rd sbz rm => firstOf (saturateCases rn rd sbz rm)
  | .qdsub _ rn rd sbz rm => firstOf (saturateCases rn rd sbz rm)
  | .mul _ _ rd sbz rs rm =>
    firstOf [(sbz != 0#4, .shouldBe), (rd == 15#4 || rm == 15#4 || rs == 15#4, .multiplyR15), (rd == rm, .multiplyRdRm)]
  | .mla _ _ rd rn rs rm =>
    firstOf [(rd == 15#4 || rm == 15#4 || rs == 15#4 || rn == 15#4, .multiplyR15), (rd == rm, .multiplyRdRm)]
  | .umull _ _ rdHi rdLo rs rm => firstOf (longCases rdHi rdLo rs rm)
  | .umlal _ _ rdHi rdLo rs rm => firstOf (longCases rdHi rdLo rs rm)
  | .smull _ _ rdHi rdLo rs rm => firstOf (longCases rdHi rdLo rs rm)
  | .smlal _ _ rdHi rdLo rs rm => firstOf (longCases rdHi rdLo rs rm)
  | .smlaXY _ rd rn rs _ _ rm => firstOf [(rd == 15#4 || rm == 15#4 || rs == 15#4 || rn == 15#4, .multiplyR15)]
  | .smlawY _ rd rn rs _ rm => firstOf [(rd == 15#4 || rm == 15#4 || rs == 15#4 || rn == 15#4, .multiplyR15)]
  | .smulwY _ rd sbz rs _ rm => firstOf [(sbz != 0#4, .shouldBe), (rd == 15#4 || rm == 15#4 || rs == 15#4, .multiplyR15)]
  | .smlalXY _ rdHi rdLo rs _ _ rm =>
    firstOf [(rdHi == 15#4 || rdLo == 15#4 || rm == 15#4 || rs == 15#4, .multiplyR15), (rdHi == rdLo, .longSamePair)]
  | .smulXY _ rd sbz rs _ _ rm => firstOf [(sbz != 0#4, .shouldBe), (rd == 15#4 || rm == 15#4 || rs == 15#4, .multiplyR15)]
  | .swp _ rn rd sbz rm => firstOf (swapCases rn rd sbz rm)
  | .swpb _ rn rd sbz rm => firstOf (swapCases rn rd sbz rm)
  | .ldm1 _ _ _ w rn list => firstOf (listCases rn list ++ [(w && list.getLsbD rn.toNat, .loadListHasBase)])
  | .ldm2 _ _ _ w rn list => firstOf (listCases rn (0b0#1 ++ list) ++ [(w, .userBankWriteback)])
  | .ldm3 _ _ _ w rn list =>
    firstOf (listCases rn (0b1#1 ++ list) ++ [(w && (0b1#1 ++ list).getLsbD rn.toNat, .loadListHasBase)])
  | .stm1 _ _ _ w rn list =>
    firstOf (listCases rn list ++ [(w && list.getLsbD rn.toNat && !isLowest list rn.toNat, .storeBaseNotLowest)])
  | .stm2 _ _ _ w rn list => firstOf (listCases rn list ++ [(w, .userBankWriteback)])
  | .bx _ sbo _ => firstOf [(sbo != 0xFFF#12, .shouldBe)]
  | .bxj _ sbo rm => firstOf [(sbo != 0xFFF#12, .shouldBe), (rm == 15#4, .bxjPc)]
  | .blxReg _ sbo rm => firstOf [(sbo != 0xFFF#12, .shouldBe), (rm == 15#4, .blxPc)]
  | .bkpt cond _ _ => firstOf [(cond != 0b1110#4, .conditionalBkpt)]
  | .tMul rm rd => firstOf [(rd == rm, .multiplyRdRm)]
  | .tAddHi h1 h2 _ _ => firstOf [(!h1 && !h2, .hiOpOnLow)]
  | .tCmpHi h1 h2 _ _ => firstOf [(!h1 && !h2, .hiOpOnLow)]
  | .tMovHi h1 h2 _ _ => firstOf [(!h1 && !h2, .hiOpOnLow)]
  | .tBx _ _ sbz => firstOf [(sbz != 0#3, .shouldBe)]
  | .tBlxReg h2 rm sbz => firstOf [(sbz != 0#3, .shouldBe), (h2 && rm == 7#3, .blxPc)]
  | .tPush r list => firstOf [(!r && list == 0#8, .emptyList)]
  | .tPop r list => firstOf [(!r && list == 0#8, .emptyList)]
  | .tStmia rn list =>
    firstOf [(list == 0#8, .emptyList), (list.getLsbD rn.toNat && !isLowest list rn.toNat, .storeBaseNotLowest)]
  | .tLdmia _ list => firstOf [(list == 0#8, .emptyList)]
  | _ => none

/-! ### Multiplies and saturation -/

/-- An exact integer brought into the signed 32-bit range (R13). -/
def clamp32 (i : Int) : Int := max (-(2 ^ 31)) (min (2 ^ 31 - 1) i)

/-- An exact integer is outside the signed 32-bit range (R13). -/
def outside32 (i : Int) : Bool := decide (i < -(2 ^ 31) ∨ 2 ^ 31 ≤ i)

/-- The signed half of a word, top or bottom, as an integer (R610). -/
def halfInt (v : Word) (top : Bool) : Int :=
  let n : Int := if top then (v.toNat / 2 ^ 16 : Nat) else (v.toNat % 2 ^ 16 : Nat)
  if n < 2 ^ 15 then n else n - 2 ^ 16

/-- A 64-bit result in a register pair (R603). -/
def pairHolds (t : State) (rdHi rdLo : Reg) (p : BitVec 64) : Prop :=
  reg t rdLo = p.extractLsb' 0 32 ∧ reg t rdHi = p.extractLsb' 32 32

/-- N and Z of a 64-bit result (R603). -/
def leavesNZ64 (t : State) (p : BitVec 64) : Prop := flagN t = p.getLsbD 63 ∧ flagZ t = decide (p = 0#64)

/-- N and Z where S = 1. -/
def nzBits (sf : Bool) : List Nat := if sf then [31, 30] else []

/-! ### Status writes -/

/-- Bit `i` of the status an MSR writes (R541): the operand's where the field of the bit is selected and, in User mode,
is the flags field. -/
def msrTakes (user : Bool) (fm : BitVec 4) (i : Nat) : Bool := fm.getLsbD (i / 8) && (!user || decide (24 ≤ i))

/-- An MSR source, as encoded: an immediate (R541) or a register (R542). -/
inductive MsrSource where
  | imm (rot : BitVec 4) (v : BitVec 8)
  | reg (rm : Reg)
  deriving DecidableEq, Repr

/-- The MSR of a source. -/
def msrInstr (cond : BitVec 4) (r : Bool) (fm : BitVec 4) : MsrSource → Instr
  | .imm rot v => .msrImm cond r fm 0xF#4 rot v
  | .reg rm => .msrReg cond r fm 0xF#4 0#4 rm

/-- The operand of an MSR (R541, R542). -/
def msrOperand (s : State) : MsrSource → Word
  | .imm rot v => (v.setWidth 32).rotateRight (2 * rot.toNat)
  | .reg rm => reg s rm

/-- The MSR does not read R15 (R542). -/
def msrLegal : MsrSource → Bool
  | .imm _ _ => true
  | .reg rm => rm != 15#4

/-! ### Exceptions -/

/-- The exception an instruction raises whatever the state (R756, R757, R760, R801-R803, R806, R807, R992, R997,
R998). -/
def alwaysRaises : Instr → Option Exc
  | .swi _ _ => some .softwareInterrupt
  | .bkpt cond _ _ => if cond = 0b1110#4 then some .prefetchAbort else none
  | .ldcPre _ _ _ _ _ _ _ _ => some .undefined
  | .ldcPost _ _ _ _ _ _ _ => some .undefined
  | .ldcUnindexed _ _ _ _ _ _ => some .undefined
  | .stcPre _ _ _ _ _ _ _ _ => some .undefined
  | .stcPost _ _ _ _ _ _ _ => some .undefined
  | .stcUnindexed _ _ _ _ _ _ => some .undefined
  | .mcrr _ _ _ _ _ _ => some .undefined
  | .mrrc _ _ _ _ _ _ => some .undefined
  | .cdp _ _ _ _ _ _ _ => some .undefined
  | .undefMulSpace01 _ _ _ => some .undefined
  | .undefSwapSpaceA _ _ _ _ => some .undefined
  | .undefSwapSpaceB _ _ _ _ => some .undefined
  | .undefSwapSpaceC _ _ _ => some .undefined
  | .undefMisc0001 _ _ _ _ => some .undefined
  | .undefMisc0010A _ _ _ _ => some .undefined
  | .undefMisc0010B _ _ _ => some .undefined
  | .undefMisc0011A _ _ _ _ => some .undefined
  | .undefMisc0011B _ _ _ => some .undefined
  | .undefMisc0100 _ _ _ _ => some .undefined
  | .undefMisc0110 _ _ _ _ => some .undefined
  | .undefMisc0111A _ _ _ _ => some .undefined
  | .undefMisc0111B _ _ _ => some .undefined
  | .undefMsrImmSpace _ _ _ => some .undefined
  | .undefLsRegBit4 _ _ _ => some .undefined
  | .undefCpLsSpace _ _ => some .undefined
  | .tBkpt _ => some .prefetchAbort
  | .tSwi _ => some .softwareInterrupt
  | .tUndefB1 _ => some .undefined
  | .tUndefB2B3 _ => some .undefined
  | .tUndefB6B7 _ => some .undefined
  | .tUndefB8Bb _ => some .undefined
  | .tUndefBf _ => some .undefined
  | .tUndefCondE _ => some .undefined
  | .tUndefBlxOdd _ => some .undefined
  | _ => none

/-- The return address of an exception an instruction raises (R1104), from its own address: two widths before
`x[15]`. -/
def returnAddress (s : State) : Exc → Word
  | .prefetchAbort => if flagT s then reg s 15#4 else reg s 15#4 - 4#32
  | .dataAbort => if flagT s then reg s 15#4 + 4#32 else reg s 15#4
  | _ => if flagT s then reg s 15#4 - 2#32 else reg s 15#4 - 4#32

/-- The unconditional words that are skipped (R319, R422, R705, R808-R812). -/
def neverRuns : Instr → Bool
  | .pldImm _ _ _ _ => true
  | .pldReg _ _ _ _ _ _ => true
  | .cdp2 _ _ _ _ _ _ => true
  | .mcr2 _ _ _ _ _ _ => true
  | .mrc2 _ _ _ _ _ _ => true
  | .ldc2 _ _ _ _ _ _ _ _ => true
  | .stc2 _ _ _ _ _ _ _ _ => true
  | .nvSkipped _ => true
  | _ => false

/-! ### Thumb -/

/-- What a Thumb data-processing instruction leaves (R900): the register written, the result, and C and V where it
writes them. -/
structure ThumbResult where
  dest : Option Reg
  value : Word
  carry : Option Bool
  overflow : Option Bool
  deriving DecidableEq, Repr

/-- A result with its flags as the function `op` of two operands leaves them (R13). -/
def arithResult (op : DpOp) (dest : Option Reg) (a b : Word) (c : Bool) : ThumbResult :=
  { dest := dest, value := dpValue op a b c, carry := some (dpCarryOut op a b c false),
    overflow := some (dpOverflowOut op a b c) }

/-- A result that writes N and Z alone. -/
def logicResult (dest : Option Reg) (v : Word) : ThumbResult := { dest := dest, value := v, carry := none, overflow := none }

/-- A shifted result: C is the shifter's. -/
def shiftResult (dest : Reg) (o : ShiftOut) : ThumbResult :=
  { dest := some dest, value := o.value, carry := some o.carry, overflow := none }

/-- Formats 1 to 4 (R901-R927), with the shifter as `ShifterByImmediate` and `ShifterByRegister` describe it. MUL with
Rd = Rm is UNPREDICTABLE and has no result. -/
def thumbResult (s : State) : Instr → Option ThumbResult
  | .tLslImm imm rm rd => some (shiftResult (lowReg rd) (shiftByImm 0b00#2 (low s rm) imm (flagC s)))
  | .tLsrImm imm rm rd => some (shiftResult (lowReg rd) (shiftByImm 0b01#2 (low s rm) imm (flagC s)))
  | .tAsrImm imm rm rd => some (shiftResult (lowReg rd) (shiftByImm 0b10#2 (low s rm) imm (flagC s)))
  | .tAddReg rm rn rd => some (arithResult .add (some (lowReg rd)) (low s rn) (low s rm) false)
  | .tSubReg rm rn rd => some (arithResult .sub (some (lowReg rd)) (low s rn) (low s rm) false)
  | .tAddImm3 imm rn rd => some (arithResult .add (some (lowReg rd)) (low s rn) (imm.setWidth 32) false)
  | .tSubImm3 imm rn rd => some (arithResult .sub (some (lowReg rd)) (low s rn) (imm.setWidth 32) false)
  | .tMovImm rd imm => some (logicResult (some (lowReg rd)) (imm.setWidth 32))
  | .tCmpImm rd imm => some (arithResult .sub none (low s rd) (imm.setWidth 32) false)
  | .tAddImm8 rd imm => some (arithResult .add (some (lowReg rd)) (low s rd) (imm.setWidth 32) false)
  | .tSubImm8 rd imm => some (arithResult .sub (some (lowReg rd)) (low s rd) (imm.setWidth 32) false)
  | .tAnd rm rd => some (logicResult (some (lowReg rd)) (low s rd &&& low s rm))
  | .tEor rm rd => some (logicResult (some (lowReg rd)) (low s rd ^^^ low s rm))
  | .tLslReg rm rd => some (shiftResult (lowReg rd) (shiftByReg 0b00#2 (low s rd) ((low s rm).toNat % 256) (flagC s)))
  | .tLsrReg rm rd => some (shiftResult (lowReg rd) (shiftByReg 0b01#2 (low s rd) ((low s rm).toNat % 256) (flagC s)))
  | .tAsrReg rm rd => some (shiftResult (lowReg rd) (shiftByReg 0b10#2 (low s rd) ((low s rm).toNat % 256) (flagC s)))
  | .tAdc rm rd => some (arithResult .adc (some (lowReg rd)) (low s rd) (low s rm) (flagC s))
  | .tSbc rm rd => some (arithResult .sbc (some (lowReg rd)) (low s rd) (low s rm) (flagC s))
  | .tRor rm rd => some (shiftResult (lowReg rd) (shiftByReg 0b11#2 (low s rd) ((low s rm).toNat % 256) (flagC s)))
  | .tTst rm rd => some (logicResult none (low s rd &&& low s rm))
  | .tNeg rm rd => some (arithResult .sub (some (lowReg rd)) 0#32 (low s rm) false)
  | .tCmpReg rm rd => some (arithResult .sub none (low s rd) (low s rm) false)
  | .tCmn rm rd => some (arithResult .add none (low s rd) (low s rm) false)
  | .tOrr rm rd => some (logicResult (some (lowReg rd)) (low s rd ||| low s rm))
  | .tMul rm rd => if rd = rm then none else some (logicResult (some (lowReg rd)) (low s rm * low s rd))
  | .tBic rm rd => some (logicResult (some (lowReg rd)) (low s rd &&& ~~~low s rm))
  | .tMvn rm rd => some (logicResult (some (lowReg rd)) (~~~low s rm))
  | .tCmpHi h1 h2 rm rd =>
    if !h1 && !h2 then none else some (arithResult .sub none (reg s (hiReg h1 rd)) (reg s (hiReg h2 rm)) false)
  | _ => none

/-- The status bits a Thumb result may write. -/
def thumbBits (r : ThumbResult) : List Nat :=
  [31, 30] ++ (if r.carry.isSome then [29] else []) ++ (if r.overflow.isSome then [28] else [])

/-- The register and value of the Thumb instructions that write one register and no flag (R930, R932, R935-R938,
R994); the program counter is not among them. -/
def thumbMove (s : State) : Instr → Option (Reg × Word)
  | .tAddHi h1 h2 rm rd =>
    if (!h1 && !h2) || hiReg h1 rd == 15#4 then none
    else some (hiReg h1 rd, reg s (hiReg h1 rd) + reg s (hiReg h2 rm))
  | .tMovHi h1 h2 rm rd =>
    if (!h1 && !h2) || hiReg h1 rd == 15#4 then none else some (hiReg h1 rd, reg s (hiReg h2 rm))
  | .tAddPc rd imm => some (lowReg rd, alignWord (reg s 15#4) + (imm ++ 0b00#2).setWidth 32)
  | .tAddSp rd imm => some (lowReg rd, reg s 13#4 + (imm ++ 0b00#2).setWidth 32)
  | .tAddSpImm imm => some (13#4, reg s 13#4 + (imm ++ 0b00#2).setWidth 32)
  | .tSubSpImm imm => some (13#4, reg s 13#4 - (imm ++ 0b00#2).setWidth 32)
  | .tBlPrefix imm => some (14#4, reg s 15#4 + (imm ++ 0#12).signExtend 32)
  | _ => none

/-- The target of the Thumb instructions that branch and stay in Thumb state (R930, R932, R991, R993, R995), and the link
BL writes. -/
def thumbJump (s : State) : Instr → Option (Word × Option Word)
  | .tAddHi h1 h2 rm rd =>
    if (h1 || h2) && hiReg h1 rd == 15#4 then some (reg s 15#4 + reg s (hiReg h2 rm), none) else none
  | .tMovHi h1 h2 rm rd => if (h1 || h2) && hiReg h1 rd == 15#4 then some (reg s (hiReg h2 rm), none) else none
  | .tBCond _ imm => some (reg s 15#4 + (imm ++ 0b0#1).signExtend 32, none)
  | .tB imm => some (reg s 15#4 + (imm ++ 0b0#1).signExtend 32, none)
  | .tBlSuffix imm => some (reg s 14#4 + (imm ++ 0b0#1).setWidth 32, some ((reg s 15#4 - 2#32) ||| 1#32))
  | _ => none

/-- How a load extends what it reads. -/
inductive LoadKind where
  | word
  | byte
  | half
  | signedByte
  | signedHalf
  deriving DecidableEq, Repr

/-- The width of a load. -/
def loadWidth : LoadKind → Width
  | .word => .word
  | .byte => .byte
  | .half => .half
  | .signedByte => .byte
  | .signedHalf => .half

/-- The value a load gives from flat memory (R208, R652, R653, R666-R668): a word is rotated by its misalignment. -/
def loadedValue (s : State) (f : Word × Nat) (a : Word) : LoadKind → Word
  | .word => (word4At s f (alignWord a)).rotateRight (8 * (a.toNat % 4))
  | .byte => (byteAt s f a).setWidth 32
  | .half => (halfAt s f a).setWidth 32
  | .signedByte => (byteAt s f a).signExtend 32
  | .signedHalf => (halfAt s f a).signExtend 32

/-- The address an access of a width presents to memory (R208): a word's is aligned. -/
def accessAddr (n : Width) (a : Word) : Word :=
  match n with
  | .word => alignWord a
  | _ => a

/-- A halfword access at an odd address, which faults (R208). -/
def oddHalf (n : Width) (a : Word) : Bool :=
  match n with
  | .half => a.getLsbD 0
  | _ => false

/-- The destination, address and kind of a Thumb load (R970-R986). -/
def thumbLoad (s : State) : Instr → Option (Reg × Word × LoadKind)
  | .tLdrPc rd imm => some (lowReg rd, alignWord (reg s 15#4) + (imm ++ 0b00#2).setWidth 32, .word)
  | .tLdrsbReg rm rn rd => some (lowReg rd, low s rn + low s rm, .signedByte)
  | .tLdrReg rm rn rd => some (lowReg rd, low s rn + low s rm, .word)
  | .tLdrhReg rm rn rd => some (lowReg rd, low s rn + low s rm, .half)
  | .tLdrbReg rm rn rd => some (lowReg rd, low s rn + low s rm, .byte)
  | .tLdrshReg rm rn rd => some (lowReg rd, low s rn + low s rm, .signedHalf)
  | .tLdrImm imm rn rd => some (lowReg rd, low s rn + (imm ++ 0b00#2).setWidth 32, .word)
  | .tLdrbImm imm rn rd => some (lowReg rd, low s rn + imm.setWidth 32, .byte)
  | .tLdrhImm imm rn rd => some (lowReg rd, low s rn + (imm ++ 0b0#1).setWidth 32, .half)
  | .tLdrSp rd imm => some (lowReg rd, reg s 13#4 + (imm ++ 0b00#2).setWidth 32, .word)
  | _ => none

/-- The source, address and width of a Thumb store (R971-R985). -/
def thumbStore (s : State) : Instr → Option (Reg × Word × Width)
  | .tStrReg rm rn rd => some (lowReg rd, low s rn + low s rm, .word)
  | .tStrhReg rm rn rd => some (lowReg rd, low s rn + low s rm, .half)
  | .tStrbReg rm rn rd => some (lowReg rd, low s rn + low s rm, .byte)
  | .tStrImm imm rn rd => some (lowReg rd, low s rn + (imm ++ 0b00#2).setWidth 32, .word)
  | .tStrbImm imm rn rd => some (lowReg rd, low s rn + imm.setWidth 32, .byte)
  | .tStrhImm imm rn rd => some (lowReg rd, low s rn + (imm ++ 0b0#1).setWidth 32, .half)
  | .tStrSp rd imm => some (lowReg rd, reg s 13#4 + (imm ++ 0b00#2).setWidth 32, .word)
  | _ => none

/-- The low bytes of a word, stored at an address of flat memory (R206). -/
def storedAt (t : State) (f : Word × Nat) (a : Word) (n : Width) (v : Word) : Prop :=
  match n with
  | .byte => byteAt t f a = v.setWidth 8
  | .half => halfAt t f a = v.setWidth 16
  | .word => word4At t f a = v

/-! ### Loads and stores of one register -/

/-- A load or store of one register (R652-R659, R666-R669), as encoded but for its condition and registers. -/
inductive Single where
  | mode2 (op : Op2) (x : Index2) (u : Bool) (off : Offset2)
  | mode3 (op : Op3) (p u w : Bool) (off : Offset3)
  deriving DecidableEq, Repr

/-- The instruction of a single transfer. -/
def singleInstr (y : Single) (cond : BitVec 4) (rn rd : Reg) : Instr :=
  match y with
  | .mode2 op x u off => mode2Instr op x cond u rn rd off
  | .mode3 op p u w off => mode3Instr op cond p u w rn rd off

/-- The register combinations of a single transfer that are not UNPREDICTABLE (R651-R659, R665-R669). -/
def singleLegal (y : Single) (rn rd : Reg) : Bool :=
  match y with
  | .mode2 op x _ off => mode2Legal x rn rd off && (rd != 15#4 || op == .str || (op == .ldr && x != .translated))
  | .mode3 op p _ w off => mode3Legal p w rn rd off && rd != 15#4 && op != .ldrd && op != .strd

/-- The address of a single transfer and its moved base (R651, R665). -/
def singleAddr (s : State) (y : Single) (rn : Reg) : Addr :=
  match y with
  | .mode2 _ x u off => mode2Addr s x u rn off
  | .mode3 _ p u w off => mode3Addr s p u w rn off

/-- The kind of load a single transfer makes; none for a store. -/
def singleLoad : Single → Option LoadKind
  | .mode2 .ldr _ _ _ => some .word
  | .mode2 .ldrb _ _ _ => some .byte
  | .mode2 .str _ _ _ => none
  | .mode2 .strb _ _ _ => none
  | .mode3 .ldrh _ _ _ _ => some .half
  | .mode3 .ldrsb _ _ _ _ => some .signedByte
  | .mode3 .ldrsh _ _ _ _ => some .signedHalf
  | .mode3 .strh _ _ _ _ => none
  | .mode3 .ldrd _ _ _ _ => none
  | .mode3 .strd _ _ _ _ => none

/-- The width of a single transfer. -/
def singleWidth : Single → Width
  | .mode2 .ldr _ _ _ => .word
  | .mode2 .ldrb _ _ _ => .byte
  | .mode2 .str _ _ _ => .word
  | .mode2 .strb _ _ _ => .byte
  | .mode3 .ldrsb _ _ _ _ => .byte
  | .mode3 _ _ _ _ _ => .half

/-- A single transfer stores. -/
def singleStores (y : Single) : Bool := (singleLoad y).isNone

/-- The registers a single transfer writes. -/
def singleRegs (y : Single) (wb : Bool) (rn rd : Reg) : List Reg :=
  (if singleStores y then [] else [rd]) ++ baseList wb rn

/-- The low `n` bytes of a word. -/
def lowPart (v : Word) (n : Nat) : Word := BitVec.ofNat 32 (v.toNat % 2 ^ (8 * n))

/-- What a load gives of the bits `v` read (R208, R652, R653, R666-R668). -/
def extended (k : LoadKind) (a v : Word) : Word :=
  match k with
  | .word => v.rotateRight (8 * (a.toNat % 4))
  | .byte => lowPart v 1
  | .half => lowPart v 2
  | .signedByte => (v.setWidth 8).signExtend 32
  | .signedHalf => (v.setWidth 16).signExtend 32

/-- One bus operation of a peripheral has been made (R205, R206, R1250): its answer is used up, the operation recorded,
and the peripheral's calls have run in order; only the listed registers have changed besides. -/
structure Answered (x : Answer) (rest : List Answer) (act : Activity) (regs : List Reg) (s t : State) : Prop where
  regs : keepsRegs regs s t
  status : keepsStatus [] s t
  bytes : keepsBytes [] s t
  banks : KeepsBanks s t
  spsr : keepsSpsr [] s t
  system : KeepsSystem s t
  cache : KeepsCache s t
  slots : t.slot0 = s.slot0 ∧ t.slot1 = s.slot1
  devices : KeepsDevices (runCalls
    { s with inputs := { s.inputs with answers := rest }, activity := s.activity ++ [act] } x.calls) t

/-! ### The step -/

/-- The state in which a burst that starts in `s` runs is `t` (R431): halted once, it goes on; halted indefinitely, an
interrupt signal wakes it, and the interrupt is dispatched first where it is not masked. -/
def burstRuns (s t : State) : Prop :=
  match s.halt with
  | .none => t = s
  | .singleShot => t = { s with halt := .none }
  | .indefinite =>
    s.irqLine = true ∧ t = if flagI s then { s with halt := .none } else dispatchIrq { s with halt := .none }

/-! ### Exceptions by their table -/

/-- A row of the exception table (R1104): vector offset, mode, and whether entry sets F. -/
structure ExcRow where
  kind : Exc
  offset : Word
  mode : BitVec 5
  masksF : Bool
  deriving DecidableEq, Repr

/-- The exception table (R1104). -/
def excTable (p : Params) : List ExcRow :=
  [⟨.reset, 0x00#32, 0x13#5, true⟩, ⟨.undefined, 0x04#32, 0x1B#5, false⟩, ⟨.softwareInterrupt, 0x08#32, 0x13#5, false⟩,
    ⟨.prefetchAbort, 0x0C#32, 0x17#5, false⟩, ⟨.dataAbort, 0x10#32, 0x17#5, false⟩,
    ⟨.irq, 0x18#32, 0x12#5, p.irqEntryMasksF⟩, ⟨.fiq, 0x1C#32, 0x11#5, true⟩]

/-! ### Interrupts, events and the cache -/

/-- Line `l` may latch at priority `p` (R1202). -/
def mayLatch (s : State) (p : Nat) (l : Fin 40) : Prop :=
  p < s.intc.threshold ∧ s.intc.pending.getLsbD l = true ∧ ctlEnable s.params.ctlEncoding (s.intc.ctl.get l) = true ∧
    ctlDisable s.params.ctlEncoding (s.intc.ctl.get l) = false ∧
    (ctlPrio s.params.ctlEncoding (s.intc.ctl.get l)).toNat = p

/-- The 32 bytes of a line of the cache are those of flat memory from its base up (R244). -/
def lineOf (s : State) (f : Word × Nat) (a : Word) : Vector Byte 32 :=
  Vector.ofFn fun k : Fin 32 => byteAt s f (lineBase a + BitVec.ofNat 32 k)

/-- Everything a controller operation cannot change. -/
def onlyIntc (s t : State) : Prop := t = { s with intc := t.intc, irqLine := t.irqLine }

/-- The slot a schedule leaves (R1210): pending at the time its kind gives, with its callback and parameter. -/
def scheduledSlot (now : Nat) (e : EventSlot) (kind : EventKind) (d cb : Nat) (p : Word) : EventSlot :=
  { id := e.id, pending := true, cb := some cb, param := p,
    time := match kind with
      | .relative => now + d
      | .periodic => e.time + d
      | .absolute => d }

/-- The event is pending and due at a time (R1213). -/
def due (time : Nat) (e : EventSlot) : Bool := e.pending && decide (e.time ≤ time)

/-- The slot after a pass in which it fired if it was due (R1213). -/
def fired (time : Nat) (e : EventSlot) : EventSlot := if due time e then { e with pending := false } else e

/-- The record of events whose callbacks did nothing. -/
def silent (l : List EventSlot) : List Activity := l.map fun e => .callback e.cb e.param []

/-- Everything a scheduler operation cannot change. -/
def onlySched (s t : State) : Prop := t = { s with sched := t.sched }

end Sys2Proof.Claims

open Sys2Proof Sys2Proof.Machine Sys2Proof.Claims

/-! ### Encoding -/

/-- Decoding the encoding of a well-formed ARM instruction gives it back, every operand at every value. -/
def Obligations.ArmRoundTrip : Prop :=
  ∀ i : Instr, i.wf = true → i.isThumb = false → decodeArm (encodeArm i) = i

/-- Decoding the encoding of a well-formed Thumb instruction gives it back, every operand at every value. -/
def Obligations.ThumbRoundTrip : Prop :=
  ∀ i : Instr, i.wf = true → i.isThumb = true → decodeThumb (encodeThumb i) = i

/-- Every word decodes to a well-formed instruction of its state whose encoding is the word: no bit is dropped and no
two words share an instruction. -/
def Obligations.EveryWordIsSomeInstruction : Prop :=
  (∀ w : Word, encodeArm (decodeArm w) = w ∧ (decodeArm w).wf = true ∧ (decodeArm w).isThumb = false) ∧
    ∀ h : Half, encodeThumb (decodeThumb h) = h ∧ (decodeThumb h).wf = true ∧ (decodeThumb h).isThumb = true

/-- Words the spec's examples write out decode to the instructions they stand for. -/
def Obligations.SpecWordsDecode : Prop :=
  decodeArm 0xE0510002#32 = .subImmShift 0xE#4 true 1#4 0#4 0#5 0#2 2#4 ∧
    decodeArm 0xE1A00201#32 = .movImmShift 0xE#4 false 0#4 0#4 4#5 0#2 1#4 ∧
    decodeArm 0xE5210004#32 = .strImmPre 0xE#4 false true 1#4 0#4 4#12 ∧
    decodeArm 0xE0810392#32 = .umull 0xE#4 false 1#4 0#4 3#4 2#4 ∧
    decodeArm 0xE92D4010#32 = .stm1 0xE#4 true false true 13#4 0x4010#16 ∧
    decodeArm 0xEE110F10#32 = .mrc 0xE#4 0#3 1#4 0#4 15#4 0#3 0#4 ∧
    decodeThumb 0x1888#16 = .tAddReg 2#3 1#3 0#3 ∧ decodeThumb 0xBD10#16 = .tPop true 0x10#8

/-! ### The machine -/

/-- The invariant holds right after reset: memory canonical, a legal mode, the vector base derived, the program counter
aligned, no pending line above 39, no cache tag twice in a set, the event slots those of `EVENT_IDS` in ascending
order. -/
def Obligations.ResetHasInvariant : Prop := Inv State.reset

/-- Every step keeps the invariant of `ResetHasInvariant`, from every state that has it. -/
def Obligations.StepKeepsInvariant : Prop := ∀ s t : State, Inv s → step s = .next t → Inv t

/-- A step runs the instruction its first prefetch slot decodes to (R420-R422, R430-R432). It begins as a burst does
(R431): a single-shot halt is cleared, an indefinite one is woken by the interrupt signal, and without the signal the step
changes nothing. The program counter moves one width, the slots shift, and the second takes what the fetch of the new
program counter gives: with caching off and flat memory, the word there, or in Thumb state the halfword, where R234 may
give the one that stood there before the last instruction's store. Then the instruction executes and, unless a halt level
is set, a pending unmasked interrupt is dispatched and the cycles are added to the time. The step as a burst of one
iteration is the model's choice (notes/assumptions/18.md), and its `noteThumbStore` and `thumbStale` hold R234's draw
(notes/assumptions/14.md). -/
def Obligations.StepRunsDecodedInstruction : Prop :=
  ∀ s : State, s.faulted = none →
    (s.halt = .indefinite → s.irqLine = false → step s = .next s) ∧
    ∀ (b : State) (i : Instr), burstRuns s b →
      (flagT b = false → decodeArm b.slot0 = i) → (flagT b = true → decodeThumb (b.slot0.setWidth 16) = i) →
      let a := reg b 15#4 + (if flagT b then 2#32 else 4#32)
      let n : Width := if flagT b then .half else .word
      (reg (advance b) 15#4 = a ∧ (advance b).curInstr = b.slot0 ∧ (advance b).slot0 = b.slot1 ∧
        (advance b).cpsr = b.cpsr ∧ (advance b).mem = b.mem ∧ ∀ r, r ≠ 15#4 → reg (advance b) r = reg b r) ∧
      (b.thumbStale = none → (advance b).slot1 =
        (fetchCode { setReg b 15#4 a with curInstr := b.slot0, slot0 := b.slot1 } a n true).1) ∧
      (∀ f, cachingActive b = false → flatRegion b.params a = some f →
        (flagT b = false → (advance b).slot1 = word4At b f a) ∧
        (flagT b = true → (∀ old, b.thumbStale ≠ some (a, old)) → (advance b).slot1 = (halfAt b f a).setWidth 32) ∧
        (∀ old, flagT b = true → b.thumbStale = some (a, old) →
          (advance b).slot1 = old.setWidth 32 ∨ (advance b).slot1 = (halfAt b f a).setWidth 32) ∧
        (advance b).codeCycles = Config.codeCost a n.bytes true) ∧
      (∀ f, exec i (advance b) = .fault f → step s = .fault f) ∧
      ∀ t, exec i (advance b) = .next t →
        (t.halt ≠ .none → step s = .next (noteThumbStore (advance b) t)) ∧
        (t.halt = .none → t.irqLine = true → flagI t = false →
          ∃ u, u = dispatchIrq (noteThumbStore (advance b) t) ∧ step s = .next { u with now := u.now + u.cycles, cycles := 0 }) ∧
        (t.halt = .none → (t.irqLine = false ∨ flagI t = true) →
          ∃ u, u = noteThumbStore (advance b) t ∧ step s = .next { u with now := u.now + u.cycles, cycles := 0 })

/-- What User mode cannot do (R1150, R1151): an instruction executed in User mode leaves the interrupt masks, every saved
status, every bank, the control word and the vector base unchanged and stays in User mode, or it has entered an
exception, whose saved status is the status the instruction began with. -/
def Obligations.UserModeIsConfined : Prop :=
  ∀ (i : Instr) (s t : State), modeLegal s → vectorsDerived s → isUser s = true → exec i s = .next t →
    t.ctrl = s.ctrl ∧ t.exceptionBase = s.exceptionBase ∧
    ((isUser t = true ∧ flagI t = flagI s ∧ flagF t = flagF s ∧ KeepsBanks s t ∧ keepsSpsr [] s t) ∨
      ∃ k ∈ [Exc.undefined, .softwareInterrupt, .prefetchAbort, .dataAbort],
        curMode t = bankMode (excBank k) ∧ flagI t = true ∧ flagF t = flagF s ∧ flagT t = false ∧
        bankSpsr t (excBank k) = s.cpsr ∧ keepsSpsr [excBank k] s t ∧
        reg t 14#4 = returnAddress s k ∧ reg t 15#4 = s.exceptionBase + excOffset k + 4#32)

/-- A jump (R410, R411): bit 0 of the target selects the state, the program counter leads by one width, the two slots hold
the words at the target, in Thumb state the halfwords, the two fetches are charged, and nothing else changes. A pipeline
fill (R412), in both states, fetches both slots again at the program counter as it stands, one width before it and at it,
and neither `cycles` nor a register, the status, memory or a device changes. -/
def Obligations.JumpRefillsSlots : Prop :=
  ∀ (s : State) (v : Word),
    jumpedTo v (jumpTo s v) ∧ JumpFrame [15#4] [5] s (jumpTo s v) ∧
    ∀ f g, cachingActive s = false →
      (v.getLsbD 0 = false → flatRegion s.params (alignWord v) = some f →
        flatRegion s.params (alignWord v + 4#32) = some g →
        (jumpTo s v).slot0 = word4At s f (alignWord v) ∧ (jumpTo s v).slot1 = word4At s g (alignWord v + 4#32) ∧
        (jumpTo s v).cycles = s.cycles + Config.codeCost (alignWord v) 4 false +
          Config.codeCost (alignWord v + 4#32) 4 true) ∧
      (v.getLsbD 0 = true → flatRegion s.params (alignHalf v) = some f →
        flatRegion s.params (alignHalf v + 2#32) = some g →
        (jumpTo s v).slot0 = (halfAt s f (alignHalf v)).setWidth 32 ∧
        (jumpTo s v).slot1 = (halfAt s g (alignHalf v + 2#32)).setWidth 32 ∧
        (jumpTo s v).cycles = s.cycles + Config.codeCost (alignHalf v) 2 false +
          Config.codeCost (alignHalf v + 2#32) 2 true) ∧
      let filled (t : State) : Prop := t.cycles = s.cycles ∧ t.regs = s.regs ∧ t.cpsr = s.cpsr ∧ t.mem = s.mem ∧
        KeepsDevices s t
      (flagT s = false → flatRegion s.params (reg s 15#4 - 4#32) = some f → flatRegion s.params (reg s 15#4) = some g →
        (fillPipeline s).slot0 = word4At s f (reg s 15#4 - 4#32) ∧ (fillPipeline s).slot1 = word4At s g (reg s 15#4) ∧
        filled (fillPipeline s)) ∧
      (flagT s = true → flatRegion s.params (reg s 15#4 - 2#32) = some f → flatRegion s.params (reg s 15#4) = some g →
        (fillPipeline s).slot0 = (halfAt s f (reg s 15#4 - 2#32)).setWidth 32 ∧
        (fillPipeline s).slot1 = (halfAt s g (reg s 15#4)).setWidth 32 ∧ filled (fillPipeline s))

/-- A burst (R430, R431, R434): time never falls; a burst that meets no fault and is not ended by a single-shot halt
reaches its target; and one that starts halted with no interrupt signal moves the time and nothing else. An iteration of
the frame driver (R1220) runs a burst to the next wake time, advances the timers by the time that passed, and runs the due
events; a timer advance makes only the calls the timers may make. A frame that ends (R1220, R1221) has passed its budget,
has counted once, and is a lag frame where there was no peripheral activity. What is no peripheral activity, and that the
timers' calls are input, are the model's choice (notes/assumptions/12.md, 15.md). -/
def Obligations.BurstReachesTarget : Prop :=
  ∀ s : State, s.faulted = none →
    (∀ target, s.now ≤ (execute s target).now ∧
      ((execute s target).faulted = none → target ≤ (execute s target).now ∨ (execute s target).halt = .singleShot) ∧
      (s.halt = .indefinite → s.irqLine = false → execute s target = { s with now := max s.now target })) ∧
    (∀ u, u = execute s (nextWakeTime s) → u.faulted = none →
      frameBody s = runSystem (advanceTimers u (u.now - s.now)) u.now) ∧
    (∀ delta, (advanceTimers s delta).activity =
        s.activity ++ [.timers delta ((s.inputs.timers.headD []).filter timerMay)] ∧
      (advanceTimers s delta).now = s.now ∧ (advanceTimers s delta).regs = s.regs ∧
      (advanceTimers s delta).cpsr = s.cpsr ∧ (advanceTimers s delta).mem = s.mem ∧
      (advanceTimers s delta).halt = s.halt) ∧
    ∀ fuel t, runFrame fuel s = some t → t.faulted = none →
      t.frameCount = s.frameCount + 1 ∧ s.now + s.params.frameCycles < t.now ∧
      ((∀ x ∈ t.activity, x.idle = true) → t.lagFrame = true)

/-! ### Conditions -/

/-- The condition check is the bit of the lookup table that the flags select, and it holds exactly when the table's
"true when" column says (R402, R403). -/
def Obligations.ConditionTable : Prop :=
  ∀ (s : State) (c : BitVec 4),
    checkCondition s c = (conditionMask c).getLsbD
      (8 * (flagN s).toNat + 4 * (flagZ s).toNat + 2 * (flagC s).toNat + (flagV s).toNat) ∧
    checkCondition s c = condHolds c (flagN s) (flagZ s) (flagC s) (flagV s) ∧ checkCondition s 0xE#4 = true

/-- What changes `cycles` and nothing else: an ARM instruction, or a Thumb conditional branch, whose condition fails (R422,
R423); and PLD, the coprocessor instructions with cond = 1111 and every other cond = 1111 word but BLX(1), whatever the
flags (R319, R422, R705, R808-R812). -/
def Obligations.SkippedInstructions : Prop :=
  ∀ (i : Instr) (s : State),
    (∀ c : BitVec 4, (i.armCond = some c ∨ ∃ imm, i = .tBCond c imm) → checkCondition s c = false →
      exec i s = .next (skipped s)) ∧
    (neverRuns i = true → exec i s = .next (skipped s))

/-- An instruction whose operands are UNPREDICTABLE, and whose condition holds, stops the machine with the fault of the
first case its rule reaches (R342, and the rules at `unpredictableForm`). CP15's MCR from PC is in `McrWritesCp15`. Which
of two cases that both hold names the fault is the model's choice (notes/assumptions/19.md, 31.md). -/
def Obligations.UnpredictableFormsFault : Prop :=
  ∀ (i : Instr) (s : State) (f : Fault), unpredictableForm i = some f → allowed i s → exec i s = .fault f

/-! ### ARM data processing -/

/-- Shifts by an immediate (R502-R506) and the rotated immediate (R501), result and carry. -/
def Obligations.ShifterByImmediate : Prop :=
  ∀ (s : State) (v : Word) (n : BitVec 5) (c : Bool),
    (shiftByImm 0b00#2 v 0#5 c = { value := v, carry := c }) ∧
    (n ≠ 0#5 → (shiftByImm 0b00#2 v n c).value.toNat = v.toNat * 2 ^ n.toNat % 2 ^ 32 ∧
      (shiftByImm 0b00#2 v n c).carry = v.getLsbD (32 - n.toNat)) ∧
    (shiftByImm 0b01#2 v 0#5 c = { value := 0#32, carry := v.getLsbD 31 }) ∧
    (n ≠ 0#5 → (shiftByImm 0b01#2 v n c).value.toNat = v.toNat / 2 ^ n.toNat ∧
      (shiftByImm 0b01#2 v n c).carry = v.getLsbD (n.toNat - 1)) ∧
    (shiftByImm 0b10#2 v 0#5 c =
      { value := if v.getLsbD 31 then 0xFFFFFFFF#32 else 0#32, carry := v.getLsbD 31 }) ∧
    (n ≠ 0#5 → (shiftByImm 0b10#2 v n c).value.toInt = v.toInt / 2 ^ n.toNat ∧
      (shiftByImm 0b10#2 v n c).carry = v.getLsbD (n.toNat - 1)) ∧
    (shiftByImm 0b11#2 v 0#5 c = { value := BitVec.ofBool c ++ v.extractLsb' 1 31, carry := v.getLsbD 0 }) ∧
    (n ≠ 0#5 → (∀ i, i < 32 → (shiftByImm 0b11#2 v n c).value.getLsbD i = v.getLsbD ((i + n.toNat) % 32)) ∧
      (shiftByImm 0b11#2 v n c).carry = v.getLsbD (n.toNat - 1)) ∧
    (∀ st rm, shiftedReg s st n rm = shiftByImm st (reg s rm) n (flagC s)) ∧
    ∀ (rot : BitVec 4) (imm : BitVec 8),
      (∀ i, i < 32 → (shiftImmediate s rot imm).value.getLsbD i = imm.getLsbD ((i + 2 * rot.toNat) % 32)) ∧
      (shiftImmediate s rot imm).carry =
        if rot = 0#4 then flagC s else (shiftImmediate s rot imm).value.getLsbD 31

/-- Shifts by the low byte of a register (R507-R510, R900), result and carry. -/
def Obligations.ShifterByRegister : Prop :=
  ∀ (s : State) (v : Word) (n : Nat) (c : Bool),
    (∀ st, shiftByReg st v 0 c = { value := v, carry := c }) ∧
    (1 ≤ n → n ≤ 31 → (shiftByReg 0b00#2 v n c).value.toNat = v.toNat * 2 ^ n % 2 ^ 32 ∧
      (shiftByReg 0b00#2 v n c).carry = v.getLsbD (32 - n)) ∧
    (shiftByReg 0b00#2 v 32 c = { value := 0#32, carry := v.getLsbD 0 }) ∧
    (1 ≤ n → n ≤ 31 → (shiftByReg 0b01#2 v n c).value.toNat = v.toNat / 2 ^ n ∧
      (shiftByReg 0b01#2 v n c).carry = v.getLsbD (n - 1)) ∧
    (shiftByReg 0b01#2 v 32 c = { value := 0#32, carry := v.getLsbD 31 }) ∧
    (32 < n → shiftByReg 0b00#2 v n c = { value := 0#32, carry := false } ∧
      shiftByReg 0b01#2 v n c = { value := 0#32, carry := false }) ∧
    (1 ≤ n → n ≤ 31 → (shiftByReg 0b10#2 v n c).value.toInt = v.toInt / 2 ^ n ∧
      (shiftByReg 0b10#2 v n c).carry = v.getLsbD (n - 1)) ∧
    (32 ≤ n → shiftByReg 0b10#2 v n c =
      { value := if v.getLsbD 31 then 0xFFFFFFFF#32 else 0#32, carry := v.getLsbD 31 }) ∧
    (1 ≤ n → n % 32 = 0 → shiftByReg 0b11#2 v n c = { value := v, carry := v.getLsbD 31 }) ∧
    (n % 32 ≠ 0 → (∀ i, i < 32 → (shiftByReg 0b11#2 v n c).value.getLsbD i = v.getLsbD ((i + n % 32) % 32)) ∧
      (shiftByReg 0b11#2 v n c).carry = v.getLsbD (n % 32 - 1)) ∧
    ∀ st rs rm, regShiftedReg s st rs rm = shiftByReg st (reg s rm) ((reg s rs).toNat % 256) (flagC s)

/-- The sixteen data-processing instructions in their three forms, Rd not the program counter (R512, R513, R520-R535):
the result in Rd, the flags where S = 1, nothing else changed. -/
def Obligations.DataProcessingResult : Prop :=
  ∀ (s : State) (op : DpOp) (cond : BitVec 4) (sf : Bool) (rn rd : Reg) (o : Operand2),
    passes s cond → dpFieldsZero op rn rd = true → operandLegal rn rd o = true → (dpWrites op = true → rd ≠ 15#4) →
    let a := reg s rn
    let x := operandOut s o
    let r := dpValue op a x.value (flagC s)
    completes (dpInstr op cond sf rn rd o) s fun t =>
      Frame (if dpWrites op then [rd] else []) (dpBits op sf) [] s t ∧ (dpWrites op = true → reg t rd = r) ∧
      (dpSets op sf = true → leavesNZ t r ∧ flagC t = dpCarryOut op a x.value (flagC s) x.carry ∧
        (dpArithmetic op = true → flagV t = dpOverflowOut op a x.value (flagC s)))

/-- A data-processing instruction with Rd = 15 and S = 0 branches in ARM state (R406, R512); an unaligned result
faults. -/
def Obligations.DataProcessingBranches : Prop :=
  ∀ (s : State) (op : DpOp) (cond : BitVec 4) (rn : Reg) (o : Operand2),
    passes s cond → flagT s = false → dpWrites op = true → dpFieldsZero op rn 15#4 = true →
    operandLegal rn 15#4 o = true →
    let v := dpValue op (reg s rn) (operandOut s o).value (flagC s)
    if v.extractLsb' 0 2 = 0b00#2 then
      completes (dpInstr op cond false rn 15#4 o) s fun t =>
        JumpFrame [15#4] [] s t ∧ reg t 15#4 = v + 4#32
    else exec (dpInstr op cond false rn 15#4 o) s = .fault .unalignedArmPc

/-- A data-processing instruction with Rd = 15 and S = 1 returns from an exception (R408, R410, R512, R1120-R1122); in USR
and SYS it is a plain branch. -/
def Obligations.DataProcessingReturns : Prop :=
  ∀ (s : State) (op : DpOp) (cond : BitVec 4) (rn : Reg) (o : Operand2),
    passes s cond → modeLegal s → dpWrites op = true → dpFieldsZero op rn 15#4 = true →
    operandLegal rn 15#4 o = true →
    returning (dpInstr op cond true rn 15#4 o) (dpValue op (reg s rn) (operandOut s o).value (flagC s)) s s

/-- MRS reads CPSR in every mode and the mode's SPSR where it has one; in USR and SYS the SPSR form faults (R540). -/
def Obligations.MrsReadsStatus : Prop :=
  ∀ (s : State) (cond : BitVec 4) (rd : Reg), passes s cond → rd ≠ 15#4 →
    completes (.mrs cond false 0xF#4 rd 0#4 0#4) s (fun t => Frame [rd] [] [] s t ∧ reg t rd = s.cpsr) ∧
    (∀ b, bankOf (curMode s) = some b → completes (.mrs cond true 0xF#4 rd 0#4 0#4) s fun t =>
      Frame [rd] [] [] s t ∧ reg t rd = bankSpsr s b) ∧
    (bankOf (curMode s) = none → exec (.mrs cond true 0xF#4 rd 0#4 0#4) s = .fault .spsrNoMode)

/-- MSR, both sources (R541, R542). To CPSR: the selected fields take the operand's bits, in User mode the flags field
alone; J reads 0; the banks are exchanged for the new mode; a change of T or an invalid mode faults. To the mode's SPSR:
the selected fields take the operand's bits and nothing else changes; in USR and SYS it faults (D58). -/
def Obligations.MsrWritesStatus : Prop :=
  ∀ (s : State) (cond : BitVec 4) (fm : BitVec 4) (src : MsrSource), passes s cond → msrLegal src = true →
    (∀ w : Word, (∀ i, i < 32 → w.getLsbD i =
        if msrTakes (isUser s) fm i then (msrOperand s src).getLsbD i else s.cpsr.getLsbD i) →
      if w.getLsbD 5 ≠ flagT s then exec (msrInstr cond false fm src) s = .fault .msrChangesT
      else if validMode (modeOf w) = false then exec (msrInstr cond false fm src) s = .fault .badMode
      else completes (msrInstr cond false fm src) s fun t =>
        t.cpsr = setBit w 24 false ∧ (∀ i, reg t i = reg (switchMode s (curMode s) (modeOf w)) i) ∧
        KeepsBanks (switchMode s (curMode s) (modeOf w)) t ∧ keepsSpsr [] s t ∧ keepsBytes [] s t ∧
        KeepsSystem s t ∧ KeepsCache s t ∧ KeepsDevices s t ∧ t.slot0 = s.slot0 ∧ t.slot1 = s.slot1) ∧
    (∀ b, bankOf (curMode s) = some b → completes (msrInstr cond true fm src) s fun t =>
      (∀ i, i < 32 → (bankSpsr t b).getLsbD i =
        if msrTakes false fm i then (msrOperand s src).getLsbD i else (bankSpsr s b).getLsbD i) ∧
      keepsSpsr [b] s t ∧ keepsRegs [] s t ∧ keepsStatus [] s t ∧ keepsBytes [] s t ∧ KeepsBanks s t ∧
      KeepsSystem s t ∧ KeepsCache s t ∧ KeepsDevices s t ∧ t.slot0 = s.slot0 ∧ t.slot1 = s.slot1) ∧
    (bankOf (curMode s) = none → exec (msrInstr cond true fm src) s = .fault .spsrNoMode)

/-- CLZ counts the zero bits above the highest set bit, 32 of zero (R545). -/
def Obligations.ClzCountsLeadingZeros : Prop :=
  ∀ (s : State) (cond : BitVec 4) (rd rm : Reg), passes s cond → rd ≠ 15#4 → rm ≠ 15#4 →
    completes (.clz cond 0xF#4 rd 0xF#4 rm) s fun t =>
      Frame [rd] [] [] s t ∧ (reg t rd).toNat ≤ 32 ∧
      (∀ k, 32 ≤ k + (reg t rd).toNat → (reg s rm).getLsbD k = false) ∧
      ((reg t rd).toNat < 32 → (reg s rm).getLsbD (31 - (reg t rd).toNat) = true)

/-- QADD, QSUB, QDADD and QDSUB (R550-R553): the exact result brought into the signed range, Q set where that changed it
and never cleared, nothing else changed. -/
def Obligations.SaturatingResults : Prop :=
  ∀ (s : State) (cond : BitVec 4) (rn rd rm : Reg), passes s cond → rn ≠ 15#4 → rd ≠ 15#4 → rm ≠ 15#4 →
    let m := (reg s rm).toInt
    let n := (reg s rn).toInt
    let leaves (e : Int) (sat : Bool) (t : State) : Prop :=
      Frame [rd] [27] [] s t ∧ (reg t rd).toInt = clamp32 e ∧ flagQ t = (flagQ s || sat || outside32 e)
    completes (.qadd cond rn rd 0#4 rm) s (leaves (m + n) false) ∧
    completes (.qsub cond rn rd 0#4 rm) s (leaves (m - n) false) ∧
    completes (.qdadd cond rn rd 0#4 rm) s (leaves (m + clamp32 (2 * n)) (outside32 (2 * n))) ∧
    completes (.qdsub cond rn rd 0#4 rm) s (leaves (m - clamp32 (2 * n)) (outside32 (2 * n)))

/-! ### ARM multiplies -/

/-- MUL and MLA (R600-R602): the low 32 bits of the product and sum, N and Z where S = 1, nothing else changed. UMULL,
UMLAL, SMULL and SMLAL (R603-R606): the exact 64-bit product, with the pair added modulo 2^64, N and Z of the 64 bits
where S = 1, nothing else changed. -/
def Obligations.MultiplyResults : Prop :=
  ∀ (s : State) (cond : BitVec 4) (sf : Bool) (rdHi rdLo rs rm : Reg), passes s cond →
    (rdHi ≠ 15#4 → rs ≠ 15#4 → rm ≠ 15#4 → rdHi ≠ rm →
      let p := (reg s rm).toNat * (reg s rs).toNat
      completes (.mul cond sf rdHi 0#4 rs rm) s (fun t =>
        Frame [rdHi] (nzBits sf) [] s t ∧ (reg t rdHi).toNat = p % 2 ^ 32 ∧ (sf = true → leavesNZ t (reg t rdHi))) ∧
      (rdLo ≠ 15#4 → completes (.mla cond sf rdHi rdLo rs rm) s fun t =>
        Frame [rdHi] (nzBits sf) [] s t ∧ (reg t rdHi).toNat = (p + (reg s rdLo).toNat) % 2 ^ 32 ∧
        (sf = true → leavesNZ t (reg t rdHi)))) ∧
    (firstOf (longCases rdHi rdLo rs rm) = none →
      let u := (reg s rm).toNat * (reg s rs).toNat
      let i := (reg s rm).toInt * (reg s rs).toInt
      let acc := reg s rdHi ++ reg s rdLo
      let leaves (p : BitVec 64) (t : State) : Prop :=
        Frame [rdHi, rdLo] (nzBits sf) [] s t ∧ pairHolds t rdHi rdLo p ∧ (sf = true → leavesNZ64 t p)
      completes (.umull cond sf rdHi rdLo rs rm) s (fun t => ∃ p, leaves p t ∧ p.toNat = u) ∧
      completes (.umlal cond sf rdHi rdLo rs rm) s (fun t => ∃ p, leaves p t ∧ p.toNat = (u + acc.toNat) % 2 ^ 64) ∧
      completes (.smull cond sf rdHi rdLo rs rm) s (fun t => ∃ p, leaves p t ∧ p.toInt = i) ∧
      completes (.smlal cond sf rdHi rdLo rs rm) s (fun t => ∃ p, leaves p t ∧ p = BitVec.ofInt 64 (i + acc.toInt)))

/-- SMLA<x><y>, SMLAW<y>, SMULW<y>, SMLAL<x><y> and SMUL<x><y> (R610-R614): exact signed products of halves, Q set where a
32-bit accumulation overflows, nothing else changed. -/
def Obligations.DspMultiplyResults : Prop :=
  ∀ (s : State) (cond : BitVec 4) (rd rn rs rm : Reg) (x y : Bool), passes s cond → rd ≠ 15#4 → rn ≠ 15#4 →
    rs ≠ 15#4 → rm ≠ 15#4 →
    let p := halfInt (reg s rm) x * halfInt (reg s rs) y
    let q := (reg s rm).toInt * halfInt (reg s rs) y / 2 ^ 16
    let accumulated (e : Int) (t : State) : Prop :=
      Frame [rd] [27] [] s t ∧ reg t rd = BitVec.ofInt 32 e ∧ flagQ t = (flagQ s || outside32 e)
    completes (.smlaXY cond rd rn rs y x rm) s (accumulated (p + (reg s rn).toInt)) ∧
    completes (.smlawY cond rd rn rs y rm) s (accumulated (q + (reg s rn).toInt)) ∧
    completes (.smulwY cond rd 0#4 rs y rm) s (fun t => Frame [rd] [] [] s t ∧ (reg t rd).toInt = q) ∧
    completes (.smulXY cond rd 0#4 rs y x rm) s (fun t => Frame [rd] [] [] s t ∧ (reg t rd).toInt = p) ∧
    (rd ≠ rn → completes (.smlalXY cond rd rn rs y x rm) s fun t =>
      Frame [rd, rn] [] [] s t ∧ pairHolds t rd rn (BitVec.ofInt 64 (p + (reg s rd ++ reg s rn).toInt)))

/-! ### ARM loads and stores -/

/-- LDR and LDRB with their T forms, from flat memory, Rd not the program counter (R651-R653, R656, R657): the word at the
aligned address rotated by the misalignment, or the byte; the base moved where it is written back. -/
def Obligations.LoadWordByte : Prop :=
  ∀ (s : State) (x : Index2) (cond : BitVec 4) (u : Bool) (rn rd : Reg) (off : Offset2) (f : Word × Nat),
    passes s cond → mode2Legal x rn rd off = true → rd ≠ 15#4 →
    let a := mode2Addr s x u rn off
    let leaves (k : LoadKind) (t : State) : Prop :=
      Frame (rd :: baseList a.wb rn) [] [] s t ∧ reg t rd = loadedValue s f a.address k ∧ basesMoved a.wb rn a.moved t
    (flatAccess s f (alignWord a.address) .word false → completes (mode2Instr .ldr x cond u rn rd off) s (leaves .word)) ∧
    (flatAccess s f a.address .byte false → completes (mode2Instr .ldrb x cond u rn rd off) s (leaves .byte))

/-- LDR to the program counter (R407, R408, R652): it interworks on the loaded word, faults on a word with bits
1:0 = 10, and faults from a misaligned address. -/
def Obligations.LoadWordToPc : Prop :=
  ∀ (s : State) (x : Index2) (cond : BitVec 4) (u : Bool) (rn : Reg) (off : Offset2) (f : Word × Nat),
    passes s cond → mode2Legal x rn 15#4 off = true → x ≠ .translated →
    let a := mode2Addr s x u rn off
    flatAccess s f (alignWord a.address) .word false →
    if a.address.extractLsb' 0 2 = 0b00#2 then
      interworks (mode2Instr .ldr x cond u rn 15#4 off) (word4At s f a.address) (baseList a.wb rn) s
        (basesMoved a.wb rn a.moved)
    else exec (mode2Instr .ldr x cond u rn 15#4 off) s = .fault .misalignedLoadPc

/-- STR and STRB with their T forms, to flat memory (R651, R654, R655, R658, R659): the word at the aligned address,
unrotated, R15 stored as the instruction's address plus `STORE_PC_OFFSET`, 8 or 12 (`storedValue`, R650); or the low byte;
no other byte changes. -/
def Obligations.StoreWordByte : Prop :=
  ∀ (s : State) (x : Index2) (cond : BitVec 4) (u : Bool) (rn rd : Reg) (off : Offset2) (f : Word × Nat),
    passes s cond → memoryCanonical s → mode2Legal x rn rd off = true →
    let a := mode2Addr s x u rn off
    let leaves (b : Word) (n : Width) (v : Word) (t : State) : Prop :=
      Frame (baseList a.wb rn) [] (accessKeys f b n.bytes) s t ∧ storedAt t f b n v ∧ basesMoved a.wb rn a.moved t
    storedReg s rd = storedValue s rd ∧
    (flatAccess s f (alignWord a.address) .word true → distinctBytes f (alignWord a.address) 4 →
      completes (mode2Instr .str x cond u rn rd off) s (leaves (alignWord a.address) .word (storedValue s rd))) ∧
    (flatAccess s f a.address .byte true → rd ≠ 15#4 →
      completes (mode2Instr .strb x cond u rn rd off) s (leaves a.address .byte (reg s rd)))

/-- An access for which `BUS_ABORT` holds enters the data abort (R221, R650, R1111). A load or store of one register,
ARM (R651-R659, R665-R669) or Thumb (R970-R986), leaves every register, the base and memory as they were. LDRD and STRD
(R670, R671) keep what their first access did where the second aborts. SWP and SWPB (R700, R701) leave register and memory
as they were where the read or the write aborts. -/
def Obligations.DataAbortTaken : Prop :=
  ∀ (s : State) (cond : BitVec 4) (rn rd : Reg), passes s cond → vectorsDerived s →
    let aborted (m : State) : State → Prop := Entered .dataAbort (returnAddress s .dataAbort) m
    (∀ y : Single, singleLegal y rn rd = true →
      let a := (singleAddr s y rn).address
      oddHalf (singleWidth y) a = false →
      busAbort s.params (accessAddr (singleWidth y) a) (singleWidth y) (singleStores y) = true →
      completes (singleInstr y cond rn rd) s (aborted s)) ∧
    (∀ (p u w : Bool) (off : Offset3) (f : Word × Nat), mode3Legal p w rn rd off = true →
      let a := (mode3Addr s p u w rn off).address
      a.extractLsb' 0 3 = 0#3 →
      (pairLegal true p w rn rd off = true →
        (busAbort s.params a .word false = true → completes (mode3Instr .ldrd cond p u w rn rd off) s (aborted s)) ∧
        (flatAccess s f a .word false → busAbort s.params (a + 4#32) .word false = true →
          completes (mode3Instr .ldrd cond p u w rn rd off) s (aborted (setReg s rd (word4At s f a))))) ∧
      (pairLegal false p w rn rd off = true →
        (busAbort s.params a .word true = true → completes (mode3Instr .strd cond p u w rn rd off) s (aborted s)) ∧
        (memoryCanonical s → flatAccess s f a .word true → distinctBytes f a 4 →
          busAbort s.params (a + 4#32) .word true = true →
          ∃ m, Frame [] [] (accessKeys f a 4) s m ∧ word4At m f a = reg s rd ∧
            completes (mode3Instr .strd cond p u w rn rd off) s (aborted m)))) ∧
    (∀ (rm : Reg) (f : Word × Nat), firstOf (swapCases rn rd 0#4 rm) = none →
      let a := reg s rn
      (busAbort s.params (alignWord a) .word false = true ∨
          (flatAccess s f (alignWord a) .word false ∧ busAbort s.params (alignWord a) .word true = true) →
        completes (.swp cond rn rd 0#4 rm) s (aborted s)) ∧
      (busAbort s.params a .byte false = true ∨
          (flatAccess s f a .byte false ∧ busAbort s.params a .byte true = true) →
        completes (.swpb cond rn rd 0#4 rm) s (aborted s))) ∧
    ∀ i : Instr,
      (∀ d a k, thumbLoad s i = some (d, a, k) → oddHalf (loadWidth k) a = false →
        busAbort s.params (accessAddr (loadWidth k) a) (loadWidth k) false = true → completes i s (aborted s)) ∧
      ∀ d a n, thumbStore s i = some (d, a, n) → oddHalf n a = false →
        busAbort s.params (accessAddr n a) n true = true → completes i s (aborted s)

/-- A load or store multiple whose access aborts enters the data abort (R221, R650, R680-R685, R987-R990): the transfers
before the aborted one are kept, in registers or in memory, and the base is not moved. -/
def Obligations.MultipleAborts : Prop :=
  ∀ (s : State) (cond : BitVec 4) (p u w r : Bool) (rn : Reg) (tn : LowReg) (f : Word × Nat) (j : Nat), passes s cond →
    vectorsDerived s → modeLegal s → memoryCanonical s →
    let aborted (m : State) : State → Prop := Entered .dataAbort (returnAddress s .dataAbort) m
    let loadStops (list : BitVec 16) (a : Word) : Prop := j < popcount list ∧ wordsReadable s a j ∧
      busAbort s.params (a + BitVec.ofNat 32 (4 * j)) .word false = true
    let storeStops (list : BitVec 16) (a : Word) : Prop := j < popcount list ∧ wordsWritable s f a j ∧
      busAbort s.params (a + BitVec.ofNat 32 (4 * j)) .word true = true
    let loads (i : Instr) (list : BitVec 16) (a : Word) : Prop := unpredictableForm i = none → loadStops list a →
      ∃ m, Frame (firstRegs list j) [] [] s m ∧ loadsFirst list j s a m ∧ completes i s (aborted m)
    let stores (i : Instr) (list : BitVec 16) (a : Word) (get : Reg → Word) : Prop := unpredictableForm i = none →
      storeStops list a →
      ∃ m, Frame [] [] (wordsKeys f a j) s m ∧ storesFirst list j f a get m ∧ completes i s (aborted m)
    (∀ list : BitVec 16, loads (.ldm1 cond p u w rn list) list (multipleStart s p u rn (popcount list)) ∧
      stores (.stm1 cond p u w rn list) list (multipleStart s p u rn (popcount list)) (storedValue s) ∧
      ((bankOf (curMode s)).isSome = true →
        stores (.stm2 cond p u false rn list) list (multipleStart s p u rn (popcount list))
          fun i => if i = 15#4 then storedValue s i else userReg s i)) ∧
    (∀ list : BitVec 15,
      loads (.ldm3 cond p u w rn list) (0b1#1 ++ list) (multipleStart s p u rn (popcount list + 1)) ∧
      ∀ c, bankOf (curMode s) = some c → unpredictableForm (.ldm2 cond p u false rn list) = none →
        let l := 0b0#1 ++ list
        let a := multipleStart s p u rn (popcount list)
        loadStops l a → ∃ m, UserFrame c (firstRegs l j) s m ∧
          (∀ n i, n < j → (listed l)[n]? = some i →
            userReg m (BitVec.ofNat 4 i) = wordFrom s (a + BitVec.ofNat 32 (4 * n))) ∧
          completes (.ldm2 cond p u false rn list) s (aborted m)) ∧
    ∀ list : BitVec 8,
      let push := 0b0#1 ++ BitVec.ofBool r ++ 0#6 ++ list
      let pop := BitVec.ofBool r ++ 0#7 ++ list
      let low8 := 0#8 ++ list
      stores (.tPush r list) push (alignWord (reg s 13#4 - BitVec.ofNat 32 (4 * popcount push))) (reg s) ∧
      loads (.tPop r list) pop (alignWord (reg s 13#4)) ∧
      stores (.tStmia tn list) low8 (alignWord (low s tn)) (reg s) ∧
      loads (.tLdmia tn list) low8 (alignWord (low s tn))

/-- Accesses that are not to flat memory, of every width (R203, R205, R206, R208): a load of an unmapped address gives 0 and
a store to it changes nothing; a load of a peripheral is one bus operation whose answer, cut to the width, is what is
loaded, and a store is one bus operation that hands over the low bytes; the peripheral's calls run within the access
(R1250). What a peripheral answers and calls is input (notes/assumptions/15.md); the record of the operation is the model's
own (notes/assumptions/12.md). -/
def Obligations.OtherAccesses : Prop :=
  ∀ (s : State) (y : Single) (cond : BitVec 4) (rn rd : Reg),
    passes s cond → singleLegal y rn rd = true → rd ≠ 15#4 →
    let a := singleAddr s y rn
    let n := singleWidth y
    let b := accessAddr n a.address
    oddHalf n a.address = false → flatRegion s.params b = none → (∀ r ∈ s.params.intcMap, r.address ≠ b) →
    busAbort s.params b n (singleStores y) = false →
    (isDevice s.params b = false → completes (singleInstr y cond rn rd) s fun t =>
      Frame (singleRegs y a.wb rn rd) [] [] s t ∧ (singleStores y = false → reg t rd = 0#32) ∧
      basesMoved a.wb rn a.moved t) ∧
    ∀ x rest, isDevice s.params b = true → s.inputs.answers = x :: rest →
      completes (singleInstr y cond rn rd) s fun t =>
        (∀ k, singleLoad y = some k → reg t rd = extended k a.address x.value ∧
          Answered x rest (.deviceRead b n.bytes (lowPart x.value n.bytes) x.calls) (singleRegs y a.wb rn rd) s t) ∧
        (singleLoad y = none →
          Answered x rest (.deviceWrite b n.bytes (lowPart (reg s rd) n.bytes) x.calls) (singleRegs y a.wb rn rd) s t) ∧
        basesMoved a.wb rn a.moved t

/-- LDRH, LDRSB, LDRSH and STRH with flat memory (R665-R669): the extended value, or the low halfword stored; a halfword
at an odd address faults (R208). -/
def Obligations.HalfAndSignedTransfers : Prop :=
  ∀ (s : State) (cond : BitVec 4) (p u w : Bool) (rn rd : Reg) (off : Offset3) (f : Word × Nat),
    passes s cond → mode3Legal p w rn rd off = true → rd ≠ 15#4 →
    let a := mode3Addr s p u w rn off
    (∀ op k, (op, k) ∈ [(Op3.ldrh, LoadKind.half), (.ldrsb, .signedByte), (.ldrsh, .signedHalf)] →
      if oddHalf (loadWidth k) a.address then exec (mode3Instr op cond p u w rn rd off) s = .fault .misalignedHalf
      else flatAccess s f a.address (loadWidth k) false → completes (mode3Instr op cond p u w rn rd off) s fun t =>
        Frame (rd :: baseList a.wb rn) [] [] s t ∧ reg t rd = loadedValue s f a.address k ∧
        basesMoved a.wb rn a.moved t) ∧
    if a.address.getLsbD 0 then exec (mode3Instr .strh cond p u w rn rd off) s = .fault .misalignedHalf
    else memoryCanonical s → flatAccess s f a.address .half true → distinctBytes f a.address 2 →
      completes (mode3Instr .strh cond p u w rn rd off) s fun t =>
        Frame (baseList a.wb rn) [] (accessKeys f a.address 2) s t ∧ storedAt t f a.address .half (reg s rd) ∧
        basesMoved a.wb rn a.moved t

/-- LDRD and STRD with flat memory (R665, R670, R671): Rd is the word at the address, Rd + 1 the word 4 above it; an
address that is no multiple of 8 faults (R208). -/
def Obligations.DoubleTransfers : Prop :=
  ∀ (s : State) (cond : BitVec 4) (p u w : Bool) (rn rd : Reg) (off : Offset3) (f : Word × Nat),
    passes s cond → mode3Legal p w rn rd off = true →
    let x := mode3Addr s p u w rn off
    let a := x.address
    (pairLegal true p w rn rd off = true →
      if a.extractLsb' 0 3 = 0#3 then
        wordsReadable s a 2 → completes (mode3Instr .ldrd cond p u w rn rd off) s fun t =>
          Frame (rd :: (rd + 1#4) :: baseList x.wb rn) [] [] s t ∧ reg t rd = wordFrom s a ∧
          reg t (rd + 1#4) = wordFrom s (a + 4#32) ∧ basesMoved x.wb rn x.moved t
      else exec (mode3Instr .ldrd cond p u w rn rd off) s = .fault .misalignedDouble) ∧
    (pairLegal false p w rn rd off = true →
      if a.extractLsb' 0 3 = 0#3 then
        memoryCanonical s → wordsWritable s f a 2 → completes (mode3Instr .strd cond p u w rn rd off) s fun t =>
          Frame (baseList x.wb rn) [] (wordsKeys f a 2) s t ∧ word4At t f a = reg s rd ∧
          word4At t f (a + 4#32) = reg s (rd + 1#4) ∧ basesMoved x.wb rn x.moved t
      else exec (mode3Instr .strd cond p u w rn rd off) s = .fault .misalignedDouble)

/-- The UNPREDICTABLE forms of data processing and of addressing modes 2 and 3 stop: a compare or a move whose
should-be-zero field is not zero (R342, R513), R15 in a register-shift form (R511), the register combinations of R651
and R665, Rd = 15 where R653, R655-R659 and R666-R669 shut it out, and an illegal pair of LDRD and STRD (R670, R671). The
spec does not order the should-be-zero case of R342 and R513 before the R15 case of R511: that a form in which both hold
stops with `shouldBe` is the model's choice (notes/assumptions/19.md, DEDUCED, and 31.md, DESIGN CHOICE). -/
def Obligations.OperandFormsStop : Prop :=
  ∀ (s : State) (cond : BitVec 4) (rn rd : Reg), passes s cond →
    (∀ (op : DpOp) (sf : Bool) (o : Operand2),
      (dpFieldsZero op rn rd = false → exec (dpInstr op cond sf rn rd o) s = .fault .shouldBe) ∧
      (dpFieldsZero op rn rd = true → operandLegal rn rd o = false →
        exec (dpInstr op cond sf rn rd o) s = .fault .r15RegisterShift)) ∧
    (∀ (op : Op2) (x : Index2) (u : Bool) (off : Offset2),
      (mode2Legal x rn rd off = false ∨
        (rd = 15#4 ∧ (op = .ldrb ∨ op = .strb ∨ (op = .ldr ∧ x = .translated)))) →
      stops (mode2Instr op x cond u rn rd off) s) ∧
    ∀ (op : Op3) (p u w : Bool) (off : Offset3),
      (mode3Legal p w rn rd off = false ∨ (rd = 15#4 ∧ op ≠ .ldrd ∧ op ≠ .strd) ∨
        (op = .ldrd ∧ pairLegal true p w rn rd off = false) ∨ (op = .strd ∧ pairLegal false p w rn rd off = false)) →
      stops (mode3Instr op cond p u w rn rd off) s

/-- LDM(1) from flat memory (R680, R681): the listed registers ascending at ascending addresses, the base moved where
W = 1, and a loaded program counter interworks. The first address and the moved base are those of the four modes IA, IB,
DA and DB (`transferPair`, R680), here and in the other multiple transfers. -/
def Obligations.LoadMultiple : Prop :=
  ∀ (s : State) (cond : BitVec 4) (p u w : Bool) (rn : Reg) (list : BitVec 16), passes s cond →
    unpredictableForm (.ldm1 cond p u w rn list) = none →
    multipleBounds p u (reg s rn) (popcount list) = transferPair p u (reg s rn) (popcount list) ∧
    let a := multipleStart s p u rn (popcount list)
    let low := list.setWidth 15
    let leaves (t : State) : Prop :=
      loadsList low s a t ∧ basesMoved w rn (multipleEnd s p u rn (popcount list)) t
    wordsReadable s a (popcount list) →
    if list.getLsbD 15 then
      interworks (.ldm1 cond p u w rn list) (wordFrom s (a + BitVec.ofNat 32 (4 * popcount low)))
        (listRegs low ++ baseList w rn) s leaves
    else completes (.ldm1 cond p u w rn list) s fun t =>
      Frame (listRegs low ++ baseList w rn) [] [] s t ∧ leaves t

/-- LDM(2) from flat memory in a mode with a bank (R107, R682): the user registers, the mode's own registers where it
banks them unchanged; in USR and SYS it faults. -/
def Obligations.LoadMultipleUser : Prop :=
  ∀ (s : State) (cond : BitVec 4) (p u : Bool) (rn : Reg) (list : BitVec 15), passes s cond → modeLegal s →
    unpredictableForm (.ldm2 cond p u false rn list) = none →
    let a := multipleStart s p u rn (popcount list)
    match bankOf (curMode s) with
    | none => exec (.ldm2 cond p u false rn list) s = .fault .userBankMode
    | some c => wordsReadable s a (popcount list) → completes (.ldm2 cond p u false rn list) s fun t =>
        UserFrame c (listRegs list) s t ∧
        ∀ j i, (listed list)[j]? = some i →
          userReg t (BitVec.ofNat 4 i) = wordFrom s (a + BitVec.ofNat 32 (4 * j))

/-- LDM(3) from flat memory (R683, R1122): the listed registers of the mode it runs in, the base moved where W = 1, then
the return to the last word loaded. -/
def Obligations.LoadMultipleReturns : Prop :=
  ∀ (s : State) (cond : BitVec 4) (p u w : Bool) (rn : Reg) (list : BitVec 15), passes s cond → modeLegal s →
    unpredictableForm (.ldm3 cond p u w rn list) = none →
    let k := popcount list
    let a := multipleStart s p u rn (k + 1)
    wordsReadable s a (k + 1) →
    ∃ m, Frame (listRegs list ++ baseList w rn) [] [] s m ∧ loadsList list s a m ∧
      basesMoved w rn (multipleEnd s p u rn (k + 1)) m ∧
      returning (.ldm3 cond p u w rn list) (wordFrom s (a + BitVec.ofNat 32 (4 * k))) s m

/-- STM(1) and STM(2) to flat memory (R680, R684, R685): the listed registers ascending at ascending addresses, R15 as the
instruction's address plus `STORE_PC_OFFSET` (`storedValue`, R650); STM(2) stores the user registers and faults in USR and SYS. -/
def Obligations.StoreMultiple : Prop :=
  ∀ (s : State) (cond : BitVec 4) (p u w : Bool) (rn : Reg) (list : BitVec 16) (f : Word × Nat), passes s cond →
    memoryCanonical s → modeLegal s →
    let k := popcount list
    let a := multipleStart s p u rn k
    (unpredictableForm (.stm1 cond p u w rn list) = none → wordsWritable s f a k →
      completes (.stm1 cond p u w rn list) s fun t =>
        Frame (baseList w rn) [] (wordsKeys f a k) s t ∧ storesList list f a (storedValue s) t ∧
        basesMoved w rn (multipleEnd s p u rn k) t) ∧
    (unpredictableForm (.stm2 cond p u false rn list) = none →
      match bankOf (curMode s) with
      | none => exec (.stm2 cond p u false rn list) s = .fault .userBankMode
      | some _ => wordsWritable s f a k → completes (.stm2 cond p u false rn list) s fun t =>
          Frame [] [] (wordsKeys f a k) s t ∧
          storesList list f a (fun i => if i = 15#4 then storedValue s i else userReg s i) t)

/-- SWP and SWPB with flat memory (R700, R701): Rd is the old word, rotated by the misalignment, or the old byte; memory
holds Rm; no other byte changes. -/
def Obligations.SwapResults : Prop :=
  ∀ (s : State) (cond : BitVec 4) (rn rd rm : Reg) (f : Word × Nat), passes s cond → memoryCanonical s →
    firstOf (swapCases rn rd 0#4 rm) = none →
    let a := reg s rn
    (flatAccess s f (alignWord a) .word false → flatAccess s f (alignWord a) .word true →
      distinctBytes f (alignWord a) 4 → completes (.swp cond rn rd 0#4 rm) s fun t =>
        Frame [rd] [] (accessKeys f (alignWord a) 4) s t ∧ reg t rd = loadedValue s f a .word ∧
        storedAt t f (alignWord a) .word (reg s rm)) ∧
    (flatAccess s f a .byte false → flatAccess s f a .byte true → completes (.swpb cond rn rd 0#4 rm) s fun t =>
      Frame [rd] [] (accessKeys f a 1) s t ∧ reg t rd = loadedValue s f a .byte ∧ storedAt t f a .byte (reg s rm))

/-! ### ARM branches and exceptions -/

/-- B, BL and BLX(1) (R750-R752): the target is the program counter plus the offset, B and BL stay in ARM state, BLX(1)
enters Thumb state, and the link is the next instruction's address. -/
def Obligations.Branches : Prop :=
  ∀ (s : State) (cond : BitVec 4) (h : Bool) (imm : BitVec 24), pcAligned s → flagT s = false →
    (passes s cond → completes (.b cond imm) s fun t =>
      JumpFrame [15#4] [] s t ∧ reg t 15#4 = reg s 15#4 + (imm ++ 0b00#2).signExtend 32 + 4#32) ∧
    (passes s cond → completes (.bl cond imm) s fun t =>
      JumpFrame [14#4, 15#4] [] s t ∧ reg t 15#4 = reg s 15#4 + (imm ++ 0b00#2).signExtend 32 + 4#32 ∧
      reg t 14#4 = reg s 15#4 - 4#32) ∧
    completes (.blxImm h imm) s fun t =>
      JumpFrame [14#4, 15#4] [5] s t ∧ flagT t = true ∧ reg t 14#4 = reg s 15#4 - 4#32 ∧
      reg t 15#4 = reg s 15#4 + (imm ++ BitVec.ofBool h ++ 0b0#1).signExtend 32 + 2#32

/-- BX, BXJ and BLX(2) (R753-R755): they interwork on Rm; BLX(2) reads Rm before it writes the link. -/
def Obligations.BranchExchanges : Prop :=
  ∀ (s : State) (cond : BitVec 4) (rm : Reg), passes s cond → flagT s = false →
    interworks (.bx cond 0xFFF#12 rm) (reg s rm) [] s (fun _ => True) ∧
    (rm ≠ 15#4 → interworks (.bxj cond 0xFFF#12 rm) (reg s rm) [] s (fun _ => True)) ∧
    (rm ≠ 15#4 → interworks (.blxReg cond 0xFFF#12 rm) (reg s rm) [14#4] s fun t => reg t 14#4 = reg s 15#4 - 4#32)

/-- SWI, BKPT, the undefined space and the coprocessor instructions no coprocessor answers, ARM and Thumb, take their
exception (R756, R757, R760, R800-R803, R806, R807, R992, R997, R998, R1104). -/
def Obligations.RaisingInstructions : Prop :=
  ∀ (i : Instr) (s : State) (k : Exc), alwaysRaises i = some k → allowed i s → vectorsDerived s →
    completes i s (Entered k (returnAddress s k) s)

/-- Exception entry for every kind (R1103, R1104): the status saved, the mode, masks and state set, the banks exchanged,
the link written, the handler next; each kind's vector, mode and mask of F are those of its row of the exception table
(`excTable`, R1104). IRQ dispatch (R1105, R1106): the IRQ entry with the next instruction's address plus 4
as link, then the signal cleared; the controller's latch stays. Soft reset (R1112, R1303): the entry of Reset with a draw
as link (notes/assumptions/13.md), nothing else reset. -/
def Obligations.ExceptionEntry : Prop :=
  ∀ s : State, vectorsDerived s →
    (∀ (k : Exc) (ret : Word), Entered k ret s (enterException s k ret)) ∧
    (∀ (k : Exc), ∃ r ∈ excTable s.params, r.kind = k) ∧
    (∀ r ∈ excTable s.params, ∀ ret : Word,
      let t := enterException s r.kind ret
      excOffset r.kind = r.offset ∧ bankMode (excBank r.kind) = r.mode ∧ excMasksF s.params r.kind = r.masksF ∧
      curMode t = r.mode ∧ reg t 15#4 = s.exceptionBase + r.offset + 4#32 ∧ reg t 14#4 = ret ∧
      flagI t = true ∧ flagF t = (r.masksF || flagF s) ∧ flagT t = false) ∧
    (∃ t, Entered .irq (reg s 15#4 + if flagT s then 2#32 else 0#32) s t ∧ dispatchIrq s = { t with irqLine := false }) ∧
    Entered .reset (Config.softResetLink s.draws) { s with draws := s.draws + 1 } (softReset s)

/-- MCR to CP15 in a privileged mode (R804, R850, R855-R862): the control word under its mask with the vector base derived
again, the invalidates, wait for interrupt; every other key changes nothing; Rd = 15 faults; User mode or another
coprocessor is Undefined (R800). -/
def Obligations.McrWritesCp15 : Prop :=
  ∀ (s : State) (cond : BitVec 4) (opc1 : BitVec 3) (crn : BitVec 4) (rd : Reg) (cp : BitVec 4) (opc2 : BitVec 3)
    (crm : BitVec 4), passes s cond →
    let i := Instr.mcr cond opc1 crn rd cp opc2 crm
    let key := opc1.toNat * 4096 + crn.toNat * 256 + crm.toNat * 16 + opc2.toNat
    let v := reg s rd
    let rest (t : State) : Prop := keepsRegs [] s t ∧ keepsStatus [] s t ∧ keepsBytes [] s t ∧ KeepsBanks s t ∧
      keepsSpsr [] s t ∧ t.slot0 = s.slot0 ∧ t.slot1 = s.slot1
    if cp ≠ 15#4 ∨ isUser s = true then vectorsDerived s → completes i s (Entered .undefined (returnAddress s .undefined) s)
    else if rd = 15#4 then exec i s = .fault .mcrFromPc
    else if key = 0x100 then completes i s fun t => rest t ∧ vectorsDerived t ∧ KeepsCache s t ∧ KeepsDevices s t ∧
      ∀ n, t.ctrl.getLsbD n = if s.params.ctrlWmask.getLsbD n then v.getLsbD n else s.ctrl.getLsbD n
    else if key ∈ [0x750, 0x770, 0x752] then completes i s fun t => rest t ∧ KeepsSystem s t ∧ KeepsDevices s t ∧
      t.icRng = s.icRng ∧ ∀ (x : Fin 64) (y : Fin 4), ((t.ic.get x).lines.get y).valid = false ∧
        ((t.ic.get x).lines.get y).tag = ((s.ic.get x).lines.get y).tag ∧
        ((t.ic.get x).lines.get y).data = ((s.ic.get x).lines.get y).data ∧ (t.ic.get x).rr = (s.ic.get x).rr
    else if key ∈ [0x751, 0x771] then completes i s fun t => rest t ∧ KeepsSystem s t ∧ KeepsDevices s t ∧
      t.icRng = s.icRng ∧ ∀ (x : Fin 64) (y : Fin 4),
        ((t.ic.get x).lines.get y).valid = (((s.ic.get x).lines.get y).valid &&
          !(decide (x.val = v.toNat / 32 % 64) && decide (((s.ic.get x).lines.get y).tag.toNat = v.toNat / 2048))) ∧
        ((t.ic.get x).lines.get y).tag = ((s.ic.get x).lines.get y).tag ∧
        ((t.ic.get x).lines.get y).data = ((s.ic.get x).lines.get y).data ∧ (t.ic.get x).rr = (s.ic.get x).rr
    else if key ∈ [0x704, 0x782] then completes i s fun t => rest t ∧ KeepsSystem s t ∧ KeepsCache s t ∧
      t.halt = .indefinite ∧ t.irqLine = s.irqLine ∧ t.intc = s.intc ∧ t.sched = s.sched
    else completes i s (Frame [] [] [] s)

/-- MRC from CP15 in a privileged mode (R805, R850, R852): the identification values, the control word, 0 for every other
key; with Rd = 15 the four flags alone are written; User mode or another coprocessor is Undefined (R800). -/
def Obligations.MrcReadsCp15 : Prop :=
  ∀ (s : State) (cond : BitVec 4) (opc1 : BitVec 3) (crn : BitVec 4) (rd : Reg) (cp : BitVec 4) (opc2 : BitVec 3)
    (crm : BitVec 4), passes s cond →
    let i := Instr.mrc cond opc1 crn rd cp opc2 crm
    let key := opc1.toNat * 4096 + crn.toNat * 256 + crm.toNat * 16 + opc2.toNat
    let v : Word := if key = 0x000 then s.params.mainId else if key = 0x001 then s.params.cacheType
      else if key = 0x100 then s.ctrl else 0#32
    if cp ≠ 15#4 ∨ isUser s = true then vectorsDerived s → completes i s (Entered .undefined (returnAddress s .undefined) s)
    else if rd = 15#4 then completes i s fun t => Frame [] [31, 30, 29, 28] [] s t ∧
      flagN t = v.getLsbD 31 ∧ flagZ t = v.getLsbD 30 ∧ flagC t = v.getLsbD 29 ∧ flagV t = v.getLsbD 28
    else completes i s fun t => Frame [rd] [] [] s t ∧ reg t rd = v

/-! ### Thumb -/

/-- The Thumb data-processing instructions of formats 1 to 4 and the hi-register compare (R901-R927, R931): result, flags
and nothing else. -/
def Obligations.ThumbDataProcessing : Prop :=
  ∀ (s : State) (i : Instr) (r : ThumbResult), thumbResult s i = some r → completes i s fun t =>
    Frame r.dest.toList (thumbBits r) [] s t ∧ (∀ d, r.dest = some d → reg t d = r.value) ∧ leavesNZ t r.value ∧
    (∀ c, r.carry = some c → flagC t = c) ∧ ∀ v, r.overflow = some v → flagV t = v

/-- The Thumb instructions that write one register and no flag (R930, R932, R935-R938, R994). -/
def Obligations.ThumbMoves : Prop :=
  ∀ (s : State) (i : Instr) (d : Reg) (v : Word), flagT s = true → thumbMove s i = some (d, v) →
    completes i s fun t => Frame [d] [] [] s t ∧ reg t d = v

/-- The Thumb branches. Those that stay in Thumb state (R930, R932, R991, R993, R995) ignore bit 0 of the target and write
BL's link; BX and BLX interwork and the BLX suffix enters ARM state (R933, R934, R996); a link has bit 0 set. -/
def Obligations.ThumbBranches : Prop :=
  ∀ s : State, flagT s = true →
    (∀ (i : Instr) (v : Word) (link : Option Word), thumbJump s i = some (v, link) →
      (∀ c imm, i = .tBCond c imm → passes s c) →
      completes i s fun t => JumpFrame (if link.isSome then [14#4, 15#4] else [15#4]) [] s t ∧
        reg t 15#4 = alignHalf v + 2#32 ∧ ∀ l, link = some l → reg t 14#4 = l) ∧
    ∀ (h2 : Bool) (rm : LowReg) (imm : BitVec 10),
      interworks (.tBx h2 rm 0#3) (reg s (hiReg h2 rm)) [] s (fun _ => True) ∧
      (hiReg h2 rm ≠ 15#4 → interworks (.tBlxReg h2 rm 0#3) (reg s (hiReg h2 rm)) [14#4] s fun t =>
        reg t 14#4 = (reg s 15#4 - 2#32) ||| 1#32) ∧
      completes (.tBlxSuffix imm) s fun t => JumpFrame [14#4, 15#4] [5] s t ∧ flagT t = false ∧
        reg t 15#4 = alignWord (reg s 14#4 + (imm ++ 0b00#2).setWidth 32) + 4#32 ∧
        reg t 14#4 = (reg s 15#4 - 2#32) ||| 1#32

/-- The Thumb loads from flat memory (R970, R974-R978, R980, R982, R984, R986); a halfword at an odd address faults. -/
def Obligations.ThumbLoads : Prop :=
  ∀ (s : State) (i : Instr) (d : Reg) (a : Word) (k : LoadKind) (f : Word × Nat), thumbLoad s i = some (d, a, k) →
    if oddHalf (loadWidth k) a then exec i s = .fault .misalignedHalf
    else flatAccess s f (accessAddr (loadWidth k) a) (loadWidth k) false → completes i s fun t =>
      Frame [d] [] [] s t ∧ reg t d = loadedValue s f a k

/-- The Thumb stores to flat memory (R971-R973, R979, R981, R983, R985); a halfword at an odd address faults. -/
def Obligations.ThumbStores : Prop :=
  ∀ (s : State) (i : Instr) (d : Reg) (a : Word) (n : Width) (f : Word × Nat), memoryCanonical s →
    thumbStore s i = some (d, a, n) →
    if oddHalf n a then exec i s = .fault .misalignedHalf
    else flatAccess s f (accessAddr n a) n true → distinctBytes f (accessAddr n a) n.bytes → completes i s fun t =>
      Frame [] [] (accessKeys f (accessAddr n a) n.bytes) s t ∧ storedAt t f (accessAddr n a) n (reg s d)

/-- PUSH and Thumb STMIA to flat memory (R987, R989): the listed registers ascending, LR last, the base moved last. -/
def Obligations.ThumbStoreMultiple : Prop :=
  ∀ (s : State) (r : Bool) (rn : LowReg) (list : BitVec 8) (f : Word × Nat), memoryCanonical s →
    let n := popcount list + r.toNat
    let start := reg s 13#4 - BitVec.ofNat 32 (4 * n)
    let base := low s rn
    (unpredictableForm (.tPush r list) = none → wordsWritable s f (alignWord start) n →
      completes (.tPush r list) s fun t =>
        Frame [13#4] [] (wordsKeys f (alignWord start) n) s t ∧ reg t 13#4 = start ∧
        storesList list f (alignWord start) (reg s) t ∧
        (r = true → word4At t f (alignWord start + BitVec.ofNat 32 (4 * popcount list)) = reg s 14#4)) ∧
    (unpredictableForm (.tStmia rn list) = none → wordsWritable s f (alignWord base) (popcount list) →
      completes (.tStmia rn list) s fun t =>
        Frame [lowReg rn] [] (wordsKeys f (alignWord base) (popcount list)) s t ∧
        reg t (lowReg rn) = base + BitVec.ofNat 32 (4 * popcount list) ∧ storesList list f (alignWord base) (reg s) t)

/-- POP and Thumb LDMIA from flat memory (R988, R990): the listed registers ascending; a popped program counter interworks
after SP is moved; a base in the list keeps the loaded value. -/
def Obligations.ThumbLoadMultiple : Prop :=
  ∀ (s : State) (r : Bool) (rn : LowReg) (list : BitVec 8),
    let n := popcount list + r.toNat
    let a := alignWord (reg s 13#4)
    let top := reg s 13#4 + BitVec.ofNat 32 (4 * n)
    let base := low s rn
    (unpredictableForm (.tPop r list) = none → wordsReadable s a n →
      let leaves (t : State) : Prop := loadsList list s a t ∧ reg t 13#4 = top
      if r then
        interworks (.tPop r list) (wordFrom s (a + BitVec.ofNat 32 (4 * popcount list))) (13#4 :: listRegs list) s leaves
      else completes (.tPop r list) s fun t => Frame (13#4 :: listRegs list) [] [] s t ∧ leaves t) ∧
    (unpredictableForm (.tLdmia rn list) = none → wordsReadable s (alignWord base) (popcount list) →
      completes (.tLdmia rn list) s fun t =>
        Frame (lowReg rn :: listRegs list) [] [] s t ∧ loadsList list s (alignWord base) t ∧
        (list.getLsbD rn.toNat = false → reg t (lowReg rn) = base + BitVec.ofNat 32 (4 * popcount list)))

/-! ### Banks, memory, the cache -/

/-- Switching from one mode to another and back restores the state, for every pair of mode values (R105). -/
def Obligations.SwitchModeRestores : Prop :=
  ∀ (s : State) (a b : BitVec 5), switchMode (switchMode s a b) b a = s

/-- No mode's registers are lost in a status write (R103, R104, R106, R112). For every status value, `replaceCpsr` keeps each
mode's own value of each register, the live register where the current mode banks it, the bank's store where another mode
does, and it keeps each user register. `userReg` after `setUserReg` gives the value written, and every other user register
as before (R107). -/
def Obligations.ModesKeepTheirRegisters : Prop :=
  let own (s : State) (b : BankMode) (i : Reg) : Word :=
    match bankReg s b i with
    | some v => if bankOf (curMode s) = some b then reg s i else v
    | none => userReg s i
  ∀ (s : State) (v : Word) (b : BankMode) (i : Reg), i ≠ 15#4 →
    own (replaceCpsr s v) b i = own s b i ∧ userReg (replaceCpsr s v) i = userReg s i ∧
    ∀ w, userReg (setUserReg s i w) i = w ∧ ∀ j, j ≠ i → userReg (setUserReg s i w) j = userReg s j

/-- A word written to flat memory reads back as the word, its halfwords and its bytes, low end first, and every other byte
is as before (R205-R207). -/
def Obligations.MixedWidthMemory : Prop :=
  ∀ (m : Memory) (f : Word × Nat) (a v : Word), m.wf = true → distinctBytes f a 4 →
    let t := flatWrite m f a 4 v
    flatRead t f a 4 = v ∧ flatRead t f a 2 = (v.extractLsb' 0 16).setWidth 32 ∧
    flatRead t f (a + 2#32) 2 = (v.extractLsb' 16 16).setWidth 32 ∧
    (∀ k, k < 4 → flatRead t f (a + BitVec.ofNat 32 k) 1 = (v.extractLsb' (8 * k) 8).setWidth 32) ∧
    (∀ key, key ∉ accessKeys f a 4 → t.read key = m.read key) ∧ t.wf = true

/-- The instruction cache (R240-R248): a fetch that misses costs `MissCost`, gives the bytes of memory and fills its line;
the way it replaces is the set's round-robin counter, which advances, where bit 14 of the control word is set, and else
the generator's, which steps (R243); every other way and every other set stays;
a fetch of the same line then hits, costs 1, gives the filled bytes and changes nothing else; an invalidate by address
makes the next fetch miss. -/
def Obligations.CacheMissThenHit : Prop :=
  ∀ (s : State) (a : Word) (n : Width) (q : Bool) (f : Word × Nat), cachingActive s = true → cacheHit s a = false →
    flatRegion s.params (lineBase a) = some f →
    let x := fetchCode s a n q
    let d := lineOf s f a
    let c := s.ic.get (cacheIndex a)
    let robin := s.ctrl.getLsbD 14
    let way : BitVec 2 := if robin then c.rr else (Config.victimStep s.icRng).1
    ((∀ i, i ≠ cacheIndex a → x.2.ic.get i = s.ic.get i) ∧
      (∀ w : Fin 4, (x.2.ic.get (cacheIndex a)).lines.get w =
        if w = way.toFin then { data := d, tag := cacheTag a, valid := true } else c.lines.get w) ∧
      (x.2.ic.get (cacheIndex a)).rr = (if robin then c.rr + 1#2 else c.rr) ∧
      x.2.icRng = if robin then s.icRng else (Config.victimStep s.icRng).2) ∧
    x.2.codeCycles = Config.missCost (lineBase a) ∧ x.1 = lineValue { data := d, tag := cacheTag a, valid := true } (cacheOffset a) n.bytes ∧
    ∀ (b : Word) (m : Width) (q' : Bool), lineBase b = lineBase a →
      cacheHit x.2 b = true ∧
      fetchCode x.2 b m q' = (lineValue { data := d, tag := cacheTag a, valid := true } (cacheOffset b) m.bytes,
        { x.2 with codeCycles := 1 }) ∧
      cacheHit (invalidateLine x.2 b) a = false

/-! ### Interrupts, events and reset -/

/-- The interrupt controller. `UpdateIRQ` (R1202, R1203): with no line latched, the pending, enabled, not disabled line of
the least priority number below the threshold, the lowest such line among equals, is latched and the signal raised; with
none, the signal is cleared; with a line latched, nothing changes. `SetIRQ`, `AcknowledgeIRQ` and `WriteCtl` (R1201,
R1204, R1205): a line that is disabled or past 39 is ignored, else it becomes pending; an acknowledge sets the threshold
and, where a line is latched, clears that line and runs `UpdateIRQ`; a control write stores the byte, leaves `pending` alone
and runs `UpdateIRQ` at once. -/
def Obligations.ControllerOperations : Prop :=
  ∀ s : State,
    let x := updateIrq s
    onlyIntc s x ∧ x.intc.ctl = s.intc.ctl ∧ x.intc.pending = s.intc.pending ∧ x.intc.threshold = s.intc.threshold ∧
    (∀ l, s.intc.latched = some l → x = s) ∧
    (s.intc.latched = none →
      (∀ l, x.intc.latched = some l → x.irqLine = true ∧
        ∃ p, mayLatch s p l ∧ ∀ q m, mayLatch s q m → p < q ∨ (p = q ∧ l ≤ m)) ∧
      (x.intc.latched = none → x.irqLine = false ∧ ∀ q m, ¬ mayLatch s q m)) ∧
    ∀ (line t : Nat) (b : Byte),
      (40 ≤ line → setIrq s line = s ∧ writeCtl s line b = s) ∧
      (∀ h : line < 40, (ctlDisable s.params.ctlEncoding (s.intc.ctl.get ⟨line, h⟩) = true → setIrq s line = s) ∧
        (ctlDisable s.params.ctlEncoding (s.intc.ctl.get ⟨line, h⟩) = false →
          ∃ u, setIrq s line = updateIrq u ∧ u = { s with intc := { s.intc with pending := u.intc.pending } } ∧
            ∀ i, u.intc.pending.getLsbD i = (s.intc.pending.getLsbD i || decide (i = line))) ∧
        (writeCtl s line b).intc.pending = s.intc.pending ∧ (writeCtl s line b).intc.ctl = s.intc.ctl.set line b h ∧
        ∃ u, writeCtl s line b = updateIrq u ∧ u = { s with intc := { s.intc with ctl := s.intc.ctl.set line b h } }) ∧
      (s.intc.latched = none → acknowledgeIrq s t = { s with intc := { s.intc with threshold := t } }) ∧
      ∀ l, s.intc.latched = some l → ∃ u, acknowledgeIrq s t = updateIrq u ∧ u.intc.latched = none ∧
        u.irqLine = false ∧ u.intc.threshold = t ∧ u.intc.ctl = s.intc.ctl ∧ onlyIntc s u ∧
        ∀ i, u.intc.pending.getLsbD i = (s.intc.pending.getLsbD i && !decide (i = l.val))

/-- Scheduling and cancelling (R1210, R1211, R1215): a schedule of a pending id or of an id outside `EVENT_IDS` changes
nothing; another sets that slot alone; a cancel clears the pending bit alone. `NextWakeTime` (R1212): the least pending
time where it is less than the window and its margin away, else the end of the window. -/
def Obligations.SchedulerOperations : Prop :=
  ∀ s : State,
    (∀ (id : Nat) (kind : EventKind) (d cb : Nat) (p : Word),
      (eventSlot s id = none → scheduleEvent s id kind d cb p = s ∧ cancelEvent s id = s) ∧
      (∀ e, eventSlot s id = some e →
        (e.pending = true → scheduleEvent s id kind d cb p = s) ∧
        (e.pending = false → onlySched s (scheduleEvent s id kind d cb p) ∧
          eventSlot (scheduleEvent s id kind d cb p) id = some (scheduledSlot s.now e kind d cb p)) ∧
        onlySched s (cancelEvent s id) ∧ eventSlot (cancelEvent s id) id = some { e with pending := false }) ∧
      ∀ j, j ≠ id → eventSlot (scheduleEvent s id kind d cb p) j = eventSlot s j ∧
        eventSlot (cancelEvent s id) j = eventSlot s j) ∧
    let edge := s.sched.sysTime + s.params.maxBurst
    (∀ e ∈ s.sched.slots, e.pending = true → e.time < edge + s.params.burstMargin → nextWakeTime s ≤ e.time) ∧
    ((∀ e ∈ s.sched.slots, e.pending = true → edge + s.params.burstMargin ≤ e.time) → nextWakeTime s = edge) ∧
    ((∃ e ∈ s.sched.slots, e.pending = true ∧ e.time < edge + s.params.burstMargin) →
      ∃ e ∈ s.sched.slots, e.pending = true ∧ nextWakeTime s = e.time)

/-- `RunSystem` (R1213-R1216), the slots in ascending order of their ids, which every step keeps
(`StepKeepsInvariant`). The time marker moves. With callbacks that do nothing, every due event is cleared and fires once,
in ascending order, and every other slot is as before. Where one callback cancels an event, an event after it that is
cancelled does not fire; where one callback schedules an event, one still pending keeps its slot, and one that is not, or
has fired in this pass, takes the new time and does not fire in it. That a callback's actions are input is the model's
choice (notes/assumptions/24.md). -/
def Obligations.RunSystemFiresDueEvents : Prop :=
  ∀ (s : State) (time : Nat), slotsAscending s →
    let t := runSystem s time
    let slots := s.sched.slots
    t.sched.sysTime = time ∧ t.sched.scheduledInPass = none ∧ t.now = s.now ∧
    (s.inputs.callbacks = [] →
      t.sched.slots = slots.map (fired time) ∧ t.activity = s.activity ++ silent (slots.filter (due time)) ∧
      t.mem = s.mem ∧ t.regs = s.regs ∧ t.cpsr = s.cpsr ∧ t.intc = s.intc) ∧
    ∀ (before after : List EventSlot) (e : EventSlot) (c : Call), slots.filter (due time) = before ++ e :: after →
      s.inputs.callbacks = List.replicate before.length [] ++ [[.call c]] →
      (∀ id, c = .cancel id →
        t.sched.slots = slots.map (fun x => if x.id = id then { x with pending := false } else fired time x) ∧
        t.activity = s.activity ++ silent before ++ .callback e.cb e.param [.call c] ::
          silent (after.filter fun x => x.id ≠ id)) ∧
      ∀ id kind d cb p, c = .sched id kind d cb p →
        t.sched.slots = slots.map (fun x =>
          if x.id = id ∧ (x.pending = false ∨ x ∈ before ∨ x = e) then scheduledSlot s.now x kind d cb p
          else fired time x) ∧
        t.activity = s.activity ++ silent before ++ .callback e.cb e.param [.call c] :: silent after

/-- Core reset (R1300, R1301): Supervisor mode with both masks set, every general register and bank zero, the program
counter zero before the first fetch and one width past the reset address after it; bit 0 of the reset address selects the
state, as in every jump (R410). -/
def Obligations.CoreResetState : Prop :=
  ∀ s : State,
    curMode (coreReset s) = 0x13#5 ∧ flagI (coreReset s) = true ∧ flagF (coreReset s) = true ∧
    (∀ i, i ≠ 15#4 → reg (coreReset s) i = 0#32) ∧
    (∀ b i, bankReg (coreReset s) b i = none ∨ bankReg (coreReset s) b i = some 0#32) ∧
    reg (clearedBlock s) 15#4 = 0#32 ∧
    (s.params.resetPc.getLsbD 0 = false → (coreReset s).cpsr = 0x000000D3#32 ∧
      reg (coreReset s) 15#4 = alignWord s.params.resetPc + 4#32) ∧
    (s.params.resetPc.getLsbD 0 = true → (coreReset s).cpsr = 0x000000F3#32 ∧
      reg (coreReset s) 15#4 = alignHalf s.params.resetPc + 2#32)

/-- The model's state after reset is what a core reset makes of it: `State.reset` is a state in which the reset has been
done, with the parameters, empty memory and platform of notes/assumptions/1.md, 2.md, 4.md to 7.md. -/
def Obligations.ResetIsCoreReset : Prop := coreReset State.reset = State.reset
end

