-- ==== Sys2Proof/Laws/Cache.lean ====
section
/-! SUPPORT. The instruction cache by set and way: what an installed line, an invalidate and a victim choice leave in
each (spec/20_memory.md R241-R246), and what a hit way is. -/

namespace Sys2Proof.Machine

theorem setCacheSet_get (s : State) (i x : Fin 64) (c : CacheSet) :
    (setCacheSet s i c).ic.get x = if x = i then c else s.ic.get x := by
  show (s.ic.set i.val c i.isLt).get x = _
  split
  · rename_i h
    subst h
    simp [Vector.get_eq_getElem]
  · rename_i h
    have hne : i.val ≠ x.val := fun e => h (Fin.ext e.symm)
    simp [Vector.get_eq_getElem, Vector.getElem_set_ne _ _ hne]

@[simp] theorem invalidateSet_rr (keep : CacheLine → Bool) (c : CacheSet) : (invalidateSet keep c).rr = c.rr := rfl

theorem invalidateSet_get (keep : CacheLine → Bool) (c : CacheSet) (w : Fin 4) :
    (invalidateSet keep c).lines.get w =
      if keep (c.lines.get w) then c.lines.get w else { c.lines.get w with valid := false } := by
  simp [invalidateSet, Vector.get_eq_getElem]

theorem invalidateAll_get (s : State) (x : Fin 64) :
    (invalidateAll s).ic.get x = invalidateSet (fun _ => false) (s.ic.get x) := by
  simp [invalidateAll, Vector.get_eq_getElem]

theorem invalidateLine_get (s : State) (a : Word) (x : Fin 64) :
    (invalidateLine s a).ic.get x =
      if x = cacheIndex a then invalidateSet (fun l => !(l.tag == cacheTag a)) (s.ic.get x) else s.ic.get x := by
  rw [invalidateLine, setCacheSet_get]
  split
  · rename_i h
    rw [h]
  · rfl

/-- A way hits exactly where some valid line of the set has the tag (R241). -/
theorem hitWay_isSome (c : CacheSet) (tag : BitVec 21) :
    (hitWay c tag).isSome = true ↔ ∃ w, (c.lines.get w).valid = true ∧ (c.lines.get w).tag = tag := by
  simp [hitWay, List.find?_isSome]

/-- A way that hits is valid and has the tag (R241). -/
theorem hitWay_some {c : CacheSet} {tag : BitVec 21} {w : Fin 4} (h : hitWay c tag = some w) :
    (c.lines.get w).valid = true ∧ (c.lines.get w).tag = tag := by
  simpa using List.find?_some h

end Sys2Proof.Machine
end

