-- ==== Sys2Proof/Laws/Encoding.lean ====
section
/-! SUPPORT. How the decoder's fields read a word that the encoder puts together, and how many bytes an encoding has. -/

namespace Sys2Proof

/-- A field above the low part is a field of the high part. -/
theorem field_high {m n k lo : Nat} (a : BitVec m) (b : BitVec n) (h : n ≤ lo) :
    @field (m + n) (a ++ b) lo k = field a (lo - n) k := by
  ext i hi
  simp only [field, BitVec.getElem_extractLsb', BitVec.getLsbD_append]
  rw [if_neg (by omega)]
  congr 1
  omega

/-- A field inside the low part is a field of the low part. -/
theorem field_low {m n k lo : Nat} (a : BitVec m) (b : BitVec n) (h : lo + k ≤ n) :
    @field (m + n) (a ++ b) lo k = field b lo k := by
  ext i hi
  simp only [field, BitVec.getElem_extractLsb', BitVec.getLsbD_append]
  rw [if_pos (by omega)]

theorem field_all {n : Nat} (a : BitVec n) : field a 0 n = a := by simp [field]

/-- A bit inside the low part is a bit of the low part. -/
theorem flag_low {m n i : Nat} (a : BitVec m) (b : BitVec n) (h : i < n) : @flag (m + n) (a ++ b) i = flag b i := by
  simp [flag, BitVec.getLsbD_append, h]

/-- A bit above the low part is a bit of the high part. -/
theorem flag_high {m n i : Nat} (a : BitVec m) (b : BitVec n) (h : n ≤ i) :
    @flag (m + n) (a ++ b) i = flag a (i - n) := by
  simp [flag, BitVec.getLsbD_append, Nat.not_lt.mpr h]

theorem flag_ofBool (b : Bool) : flag (BitVec.ofBool b) 0 = b := by cases b <;> rfl

theorem littleEndianBytes_length (n w : Nat) : (littleEndianBytes n w).length = n := by simp [littleEndianBytes]

/-- A Thumb instruction takes 2 bytes, an ARM instruction 4 (R400). -/
theorem encode_length (i : Instr) : (encode i).length = if i.isThumb then 2 else 4 := by
  unfold encode
  split <;> exact littleEndianBytes_length _ _

end Sys2Proof
end

