-- ==== Sys2Proof/Laws/Flags.lean ====
section
/-! SUPPORT. What the bit, flag and arithmetic helpers do, said once. -/

namespace Sys2Proof.Machine

/-! ### Bits -/

/-- A bit written, read back. -/
theorem getLsbD_setBit {m : Nat} (w : BitVec m) (i j : Nat) (b : Bool) :
    (setBit w i b).getLsbD j = if j = i ∧ i < m then b else w.getLsbD j := by
  by_cases hm : j < m
  · have h2 : (BitVec.ofNat m (2 ^ i)).getLsbD j = decide (i = j) := by
      rw [BitVec.getLsbD_ofNat, Nat.testBit_two_pow, decide_eq_true hm, Bool.true_and]
    unfold setBit
    cases b
    · rw [if_neg (by decide), BitVec.getLsbD_and, BitVec.getLsbD_not, h2, decide_eq_true hm]
      by_cases hj : j = i
      · subst hj
        rw [if_pos ⟨rfl, hm⟩]
        simp
      · rw [if_neg (fun e => hj e.1), decide_eq_false (fun e => hj e.symm)]
        simp
    · rw [if_pos rfl, BitVec.getLsbD_or, h2]
      by_cases hj : j = i
      · subst hj
        rw [if_pos ⟨rfl, hm⟩]
        simp
      · rw [if_neg (fun e => hj e.1), decide_eq_false (fun e => hj e.symm)]
        simp
  · rw [if_neg (by omega), BitVec.getLsbD_of_ge _ j (by omega), BitVec.getLsbD_of_ge w j (by omega)]

/-- The listed bits of a word are those below its width. -/
theorem mem_listed {m : Nat} {l : BitVec m} {i : Nat} : i ∈ listed l ↔ l.getLsbD i = true := by
  simp only [listed, List.mem_filter, List.mem_range, and_iff_right_iff_imp]
  intro h
  by_contra hi
  rw [BitVec.getLsbD_of_ge l i (by omega)] at h
  cases h

theorem listed_lt {m : Nat} {l : BitVec m} {i : Nat} (h : i ∈ listed l) : i < m := by
  rw [listed, List.mem_filter, List.mem_range] at h
  exact h.1

theorem listed_nodup {m : Nat} (l : BitVec m) : (listed l).Nodup := List.Nodup.filter _ (List.nodup_range)

/-- The little-endian values of one, two and four bytes (R205). -/
theorem leValue_one (a : Byte) : leValue [a] = a.setWidth 32 := by simp [leValue]

theorem leValue_two (a b : Byte) : leValue [a, b] = (b ++ a).setWidth 32 := by
  apply BitVec.eq_of_getLsbD_eq
  intro i hi
  simp only [leValue, BitVec.getLsbD_or, BitVec.getLsbD_setWidth, BitVec.getLsbD_shiftLeft, BitVec.getLsbD_append,
    BitVec.getLsbD_zero, Bool.and_false, Bool.or_false]
  by_cases h : i < 8
  · simp [h, hi]
  · simp [h, hi, show i - 8 < 32 by omega, BitVec.getLsbD_of_ge a i (by omega)]

theorem leValue_four (a b c d : Byte) : leValue [a, b, c, d] = d ++ c ++ b ++ a := by
  apply BitVec.eq_of_getLsbD_eq
  intro i hi
  simp only [leValue, BitVec.getLsbD_or, BitVec.getLsbD_setWidth, BitVec.getLsbD_shiftLeft, BitVec.getLsbD_append,
    BitVec.getLsbD_zero, Bool.and_false, Bool.or_false]
  by_cases h : i < 8
  · simp [h, hi]
  by_cases h2 : i - 8 < 8
  · simp [h, h2, hi, show i - 8 < 32 by omega, BitVec.getLsbD_of_ge a i (by omega)]
  by_cases h3 : i - 8 - 8 < 8
  · simp [h, h2, h3, hi, show i - 8 < 32 by omega, show i - 8 - 8 < 32 by omega,
      BitVec.getLsbD_of_ge a i (by omega), BitVec.getLsbD_of_ge b (i - 8) (by omega)]
  · simp [h, h2, h3, hi, show i - 8 < 32 by omega, show i - 8 - 8 < 32 by omega, show i - 8 - 8 - 8 < 32 by omega,
      BitVec.getLsbD_of_ge a i (by omega), BitVec.getLsbD_of_ge b (i - 8) (by omega),
      BitVec.getLsbD_of_ge c (i - 8 - 8) (by omega)]
/-! ### Flags -/

/-- Bits of the status outside N and Z are unchanged (R900). -/
theorem getLsbD_withNZ (w r : Word) (i : Nat) :
    (withNZ w r).getLsbD i = if i = 30 then r == 0#32 else if i = 31 then r.getLsbD 31 else w.getLsbD i := by
  simp only [withNZ, getLsbD_setBit]
  by_cases h : i = 30 <;> by_cases g : i = 31 <;> simp_all

theorem getLsbD_withNZ64 (w : Word) (p : BitVec 64) (i : Nat) :
    (withNZ64 w p).getLsbD i = if i = 30 then p == 0#64 else if i = 31 then p.getLsbD 63 else w.getLsbD i := by
  simp only [withNZ64, getLsbD_setBit]
  by_cases h : i = 30 <;> by_cases g : i = 31 <;> simp_all

theorem getLsbD_withNZC (w r : Word) (c : Bool) (i : Nat) :
    (withNZC w r c).getLsbD i = if i = 29 then c else (withNZ w r).getLsbD i := by
  simp only [withNZC, getLsbD_setBit]
  by_cases h : i = 29 <;> simp_all

theorem getLsbD_withNZCV (w r : Word) (c v : Bool) (i : Nat) :
    (withNZCV w r c v).getLsbD i = if i = 28 then v else (withNZC w r c).getLsbD i := by
  simp only [withNZCV, getLsbD_setBit]
  by_cases h : i = 28 <;> simp_all

theorem getLsbD_withQ (w : Word) (q : Bool) (i : Nat) :
    (withQ w q).getLsbD i = if i = 27 then (w.getLsbD 27 || q) else w.getLsbD i := by
  cases q <;> simp only [withQ, Bool.false_eq_true, ↓reduceIte, getLsbD_setBit] <;> by_cases h : i = 27 <;> simp_all

/-! ### Sums -/

/-- The value of a sum with carry (R13). -/
theorem addWithCarry_value (a b : Word) (c : Bool) :
    (addWithCarry a b c).value = a + b + if c then 1#32 else 0#32 := by
  apply BitVec.eq_of_toNat_eq
  cases c <;> simp [addWithCarry]

/-- The carry of a sum (R13): the exact unsigned sum does not fit. -/
theorem addWithCarry_carry (a b : Word) (c : Bool) :
    (addWithCarry a b c).carry = decide (2 ^ 32 ≤ a.toNat + b.toNat + c.toNat) := rfl

/-- The overflow of a sum (R13): the exact signed sum does not fit. -/
theorem addWithCarry_overflow (a b : Word) (c : Bool) : (addWithCarry a b c).overflow =
    decide (a.toInt + b.toInt + c.toNat < -(2 ^ 31) ∨ 2 ^ 31 ≤ a.toInt + b.toInt + c.toNat) := by
  have ha := BitVec.toInt_eq_toNat_cond a
  have hb := BitVec.toInt_eq_toNat_cond b
  have hr := BitVec.toInt_eq_toNat_cond (BitVec.ofNat 32 (a.toNat + b.toNat + c.toNat))
  have la := a.isLt
  have lb := b.isLt
  have lc : c.toNat ≤ 1 := by cases c <;> decide
  simp only [addWithCarry, decide_eq_decide]
  rw [BitVec.toNat_ofNat] at hr
  rw [hr]
  split at ha <;> split at hb <;> split <;> omega

/-- The complement of a word, as it stands in a difference. -/
theorem toNat_not_word (b : Word) : (~~~b).toNat = 2 ^ 32 - 1 - b.toNat := by simp [BitVec.toNat_not]

theorem toInt_not_word (b : Word) : (~~~b).toInt = -b.toInt - 1 := by
  have h := toNat_not_word b
  have l := b.isLt
  rw [BitVec.toInt_eq_toNat_cond, BitVec.toInt_eq_toNat_cond, h]
  split <;> split <;> omega

/-- A difference as a sum with the complement (R13). -/
theorem add_not_one (a b : Word) : a + ~~~b + 1#32 = a - b := by
  apply BitVec.eq_of_toNat_eq
  have h := toNat_not_word b
  have la := a.isLt
  have lb := b.isLt
  rw [BitVec.toNat_add, BitVec.toNat_add, h, BitVec.toNat_sub]
  simp only [BitVec.toNat_ofNat]
  omega

end Sys2Proof.Machine
end

