-- ==== Sys2Proof/Laws/Memory.lean ====
section
/-! SUPPORT. The laws of memory: a read after a write, and the canonical form kept by every memory operation. -/

namespace Sys2Proof.Machine

/-- Every key of the list is above `k`. -/
abbrev Memory.above (m : Memory) (k : Nat) : Prop := ∀ c ∈ m, k < c.1

theorem Memory.wf_cons {k : Nat} {b : Byte} {r : Memory} :
    Memory.wf ((k, b) :: r) = true ↔ b ≠ 0#8 ∧ Memory.above r k ∧ Memory.wf r = true := by
  simp [Memory.wf, Memory.above, and_assoc]

theorem Memory.read_of_above {m : Memory} {k : Nat} (h : Memory.above m k) : m.read k = 0#8 := by
  induction m with
  | nil => rfl
  | cons c r ih =>
    obtain ⟨j, b⟩ := c
    have hj : k < j := h (j, b) (by simp)
    rw [Memory.read, if_neg (by omega)]
    exact ih fun c hc => h c (by simp [hc])

theorem Memory.above_trans {m : Memory} {j k : Nat} (h : Memory.above m k) (hj : j ≤ k) : Memory.above m j :=
  fun c hc => lt_of_le_of_lt hj (h c hc)

/-- A write keeps the keys above a bound that the written key is above. -/
theorem Memory.above_write {m : Memory} {j a : Nat} {v : Byte} (h : Memory.above m j) (ha : j < a) :
    Memory.above (m.write a v) j := by
  induction m with
  | nil =>
    rw [Memory.write]
    split <;> simp [Memory.above, ha]
  | cons c r ih =>
    obtain ⟨k, b⟩ := c
    have hk : j < k := h (k, b) (by simp)
    have hr : Memory.above r j := fun c hc => h c (by simp [hc])
    have ih' := ih hr
    rw [Memory.write]
    split
    · split
      · exact h
      · intro c hc
        simp only [List.mem_cons] at hc
        rcases hc with rfl | rfl | hc
        · exact ha
        · exact hk
        · exact hr c hc
    · split
      · split
        · exact hr
        · intro c hc
          simp only [List.mem_cons] at hc
          rcases hc with rfl | hc
          · exact ha
          · exact hr c hc
      · intro c hc
        simp only [List.mem_cons] at hc
        rcases hc with rfl | hc
        · exact hk
        · exact ih' c hc

/-- A write keeps the canonical form. -/
theorem Memory.wf_write {m : Memory} (h : m.wf = true) (a : Nat) (v : Byte) : (m.write a v).wf = true := by
  induction m with
  | nil =>
    rw [Memory.write]
    split
    · exact h
    · exact Memory.wf_cons.2 ⟨‹_›, by simp [Memory.above], rfl⟩
  | cons c r ih =>
    obtain ⟨k, b⟩ := c
    obtain ⟨hb, hk, hr⟩ := Memory.wf_cons.1 h
    rw [Memory.write]
    split
    next hlt =>
      split
      · exact h
      next hv =>
        refine Memory.wf_cons.2 ⟨hv, ?_, h⟩
        intro c hc
        simp only [List.mem_cons] at hc
        rcases hc with rfl | hc
        · exact hlt
        · exact lt_trans hlt (hk c hc)
    next hlt =>
      split
      next heq =>
        split
        · exact hr
        next hv => exact Memory.wf_cons.2 ⟨hv, heq ▸ hk, hr⟩
      next hne => exact Memory.wf_cons.2 ⟨hb, Memory.above_write hk (by omega), ih hr⟩

/-- A read of the written key gives the written byte, in a canonical memory. -/
theorem Memory.read_write_same {m : Memory} (h : m.wf = true) (a : Nat) (v : Byte) : (m.write a v).read a = v := by
  induction m with
  | nil =>
    rw [Memory.write]
    split
    next hv => simp [Memory.read, hv]
    · simp [Memory.read]
  | cons c r ih =>
    obtain ⟨k, b⟩ := c
    obtain ⟨_, hk, hr⟩ := Memory.wf_cons.1 h
    rw [Memory.write]
    split
    next hlt =>
      split
      next hv =>
        rw [Memory.read, if_neg (by omega), hv]
        exact Memory.read_of_above (Memory.above_trans hk (by omega))
      · simp [Memory.read]
    next hlt =>
      split
      next heq =>
        split
        next hv => rw [hv]; exact Memory.read_of_above (heq ▸ hk)
        · simp [Memory.read]
      next hne =>
        rw [Memory.read, if_neg (by omega)]
        exact ih hr

/-- A write leaves every other key alone. -/
theorem Memory.read_write_ne (m : Memory) {a k : Nat} (v : Byte) (h : k ≠ a) : (m.write a v).read k = m.read k := by
  induction m with
  | nil =>
    rw [Memory.write]
    split
    · rfl
    · simp [Memory.read, Ne.symm h]
  | cons c r ih =>
    obtain ⟨j, b⟩ := c
    rw [Memory.write]
    split
    · split
      · rfl
      · rw [Memory.read, if_neg (by omega)]
    · split
      next heq =>
        split
        · rw [Memory.read, if_neg (by omega)]
        · rw [Memory.read, if_neg (by omega), Memory.read, if_neg (by omega)]
      · rw [Memory.read, Memory.read, ih]

theorem Memory.wf_writeAll {m : Memory} (h : m.wf = true) (l : List (Nat × Byte)) : (m.writeAll l).wf = true := by
  induction l generalizing m with
  | nil => exact h
  | cons c r ih => exact ih (Memory.wf_write h c.1 c.2)

/-- Writes leave every key alone that none of them names. -/
theorem Memory.read_writeAll_of_notMem (m : Memory) {l : List (Nat × Byte)} {k : Nat} (h : ∀ c ∈ l, c.1 ≠ k) :
    (m.writeAll l).read k = m.read k := by
  induction l generalizing m with
  | nil => rfl
  | cons c r ih =>
    obtain ⟨j, b⟩ := c
    rw [Memory.writeAll, ih _ fun c hc => h c (by simp [hc])]
    exact Memory.read_write_ne m b fun e => h (j, b) (by simp) e.symm

/-- A key written once reads back as the byte written. -/
theorem Memory.read_writeAll_of_mem {m : Memory} (h : m.wf = true) {l : List (Nat × Byte)}
    (hn : (l.map fun c => c.1).Nodup) {k : Nat} {b : Byte} (hm : (k, b) ∈ l) : (m.writeAll l).read k = b := by
  induction l generalizing m with
  | nil => cases hm
  | cons c r ih =>
    obtain ⟨j, d⟩ := c
    rw [List.map_cons, List.nodup_cons] at hn
    rw [Memory.writeAll]
    rcases List.mem_cons.1 hm with e | hm
    · cases e
      rw [Memory.read_writeAll_of_notMem _ fun c hc e => hn.1 (List.mem_map.2 ⟨c, hc, e⟩)]
      exact Memory.read_write_same h _ _
    · exact ih (Memory.wf_write h j d) hn.2 hm

/-- A flat write keeps the canonical form. -/
theorem wf_flatWrite {m : Memory} (h : m.wf = true) (f : Word × Nat) (a : Word) (n : Nat) (v : Word) :
    (flatWrite m f a n v).wf = true := Memory.wf_writeAll h _

/-- A flat write to distinct bytes puts byte `k` of the value at its place (R206). -/
theorem read_flatWrite {m : Memory} (h : m.wf = true) {f : Word × Nat} {a : Word} {n : Nat} (v : Word)
    (hn : (accessKeys f a n).Nodup) {k : Nat} (hk : k < n) :
    (flatWrite m f a n v).read (storageKey f (a + BitVec.ofNat 32 k)) = byteOf v k := by
  refine Memory.read_writeAll_of_mem h ?_ (List.mem_map.2 ⟨k, List.mem_range.2 hk, rfl⟩)
  rw [List.map_map]
  exact hn

/-- A flat write leaves every byte alone outside the accessed ones. -/
theorem read_flatWrite_of_notMem (m : Memory) (f : Word × Nat) (a : Word) (n : Nat) (v : Word) {k : Nat}
    (h : k ∉ accessKeys f a n) : (flatWrite m f a n v).read k = m.read k := by
  refine Memory.read_writeAll_of_notMem m fun c hc e => h ?_
  obtain ⟨i, hi, rfl⟩ := List.mem_map.1 hc
  exact List.mem_map.2 ⟨i, hi, e⟩

/-! ### What the collaborators' calls and a bus operation leave alone -/

/-- Everything a collaborator's call cannot reach (R1250): all but the controller, the scheduler, the halt level, the
interrupt signal and the model's own input fields. -/
structure CallsKeep (s t : State) : Prop where
  regs : t.regs = s.regs
  bankFiq : t.bankFiq = s.bankFiq
  bankSvc : t.bankSvc = s.bankSvc
  bankAbt : t.bankAbt = s.bankAbt
  bankIrq : t.bankIrq = s.bankIrq
  bankUnd : t.bankUnd = s.bankUnd
  spsrFiq : t.spsrFiq = s.spsrFiq
  spsrSvc : t.spsrSvc = s.spsrSvc
  spsrAbt : t.spsrAbt = s.spsrAbt
  spsrIrq : t.spsrIrq = s.spsrIrq
  spsrUnd : t.spsrUnd = s.spsrUnd
  cpsr : t.cpsr = s.cpsr
  slot0 : t.slot0 = s.slot0
  slot1 : t.slot1 = s.slot1
  curInstr : t.curInstr = s.curInstr
  codeCycles : t.codeCycles = s.codeCycles
  dataCycles : t.dataCycles = s.dataCycles
  cycles : t.cycles = s.cycles
  now : t.now = s.now
  ctrl : t.ctrl = s.ctrl
  exceptionBase : t.exceptionBase = s.exceptionBase
  ic : t.ic = s.ic
  icRng : t.icRng = s.icRng
  frameCount : t.frameCount = s.frameCount
  lagFrame : t.lagFrame = s.lagFrame
  faulted : t.faulted = s.faulted
  mem : t.mem = s.mem
  params : t.params = s.params
  dataCosts : t.dataCosts = s.dataCosts
  thumbStale : t.thumbStale = s.thumbStale

theorem CallsKeep.refl (s : State) : CallsKeep s s := by constructor <;> rfl

theorem CallsKeep.trans {s t u : State} (h : CallsKeep s t) (g : CallsKeep t u) : CallsKeep s u := by
  cases h; cases g
  constructor <;> (first | (simp only [*]))

theorem updateIrq_keeps (s : State) : CallsKeep s (updateIrq s) := by
  unfold updateIrq
  split
  · exact CallsKeep.refl s
  · split <;> constructor <;> rfl

theorem setIrq_keeps (s : State) (l : Nat) : CallsKeep s (setIrq s l) := by
  unfold setIrq
  split
  · split
    · exact CallsKeep.refl s
    · exact CallsKeep.trans (by constructor <;> rfl) (updateIrq_keeps _)
  · exact CallsKeep.refl s

theorem acknowledgeIrq_keeps (s : State) (t : Nat) : CallsKeep s (acknowledgeIrq s t) := by
  unfold acknowledgeIrq
  split
  · constructor <;> rfl
  · exact CallsKeep.trans (by constructor <;> rfl) (updateIrq_keeps _)

theorem writeCtl_keeps (s : State) (l : Nat) (b : Byte) : CallsKeep s (writeCtl s l b) := by
  unfold writeCtl
  split
  · exact CallsKeep.trans (by constructor <;> rfl) (updateIrq_keeps _)
  · exact CallsKeep.refl s

theorem scheduleEvent_keeps (s : State) (id : Nat) (k : EventKind) (d cb : Nat) (p : Word) :
    CallsKeep s (scheduleEvent s id k d cb p) := by
  unfold scheduleEvent
  split
  · exact CallsKeep.refl s
  · split
    · exact CallsKeep.refl s
    · constructor <;> rfl

theorem cancelEvent_keeps (s : State) (id : Nat) : CallsKeep s (cancelEvent s id) := by constructor <;> rfl

theorem runCall_keeps (s : State) (c : Call) : CallsKeep s (runCall s c) := by
  cases c with
  | irq l => exact setIrq_keeps s l
  | ack t => exact acknowledgeIrq_keeps s t
  | ctl l b => exact writeCtl_keeps s l b
  | sched id k d cb p => exact scheduleEvent_keeps s id k d cb p
  | cancel id => exact cancelEvent_keeps s id
  | halt1 => constructor <;> rfl

theorem runCalls_keeps (s : State) (l : List Call) : CallsKeep s (runCalls s l) := by
  induction l generalizing s with
  | nil => exact CallsKeep.refl s
  | cons c r ih => exact (runCall_keeps s c).trans (ih _)

theorem takeAnswer_keeps (s : State) (a : Word) (n : Nat) : CallsKeep s (takeAnswer s a n).2 := by
  unfold takeAnswer
  split <;> constructor <;> rfl

theorem deviceReadOp_keeps (s : State) (a : Word) (n : Nat) : CallsKeep s (deviceReadOp s a n).2 :=
  (takeAnswer_keeps s a n).trans (CallsKeep.trans (by constructor <;> rfl) (runCalls_keeps _ _))

theorem deviceWriteOp_keeps (s : State) (a : Word) (n : Nat) (v : Word) : CallsKeep s (deviceWriteOp s a n v) :=
  (takeAnswer_keeps s a n).trans (CallsKeep.trans (by constructor <;> rfl) (runCalls_keeps _ _))

theorem intcWrite_keeps {s t : State} {v : Word} {p : IntcPort} (h : intcWrite s v p = some t) : CallsKeep s t := by
  cases p <;> simp only [intcWrite, Option.some.injEq, reduceCtorEq] at h <;> subst h
  · exact setIrq_keeps _ _
  · exact acknowledgeIrq_keeps _ _
  · exact writeCtl_keeps _ _ _

theorem intcWriteAt_keeps {s t : State} {a v : Word} (h : intcWriteAt s a v = some t) : CallsKeep s t := by
  obtain ⟨r, _, hr⟩ := List.exists_of_findSome?_eq_some h
  split at hr
  · exact intcWrite_keeps hr
  · cases hr

/-- A bus read changes nothing a call cannot reach. -/
theorem busRead_keeps (s : State) (a : Word) (n : Nat) : CallsKeep s (busRead s a n).2 := by
  unfold busRead
  split
  · exact CallsKeep.refl s
  · split
    · exact CallsKeep.refl s
    · split
      · exact deviceReadOp_keeps s a n
      · exact CallsKeep.refl s

/-- A read of flat memory changes nothing, and gives the bytes stored. -/
theorem busRead_flat {s : State} {a : Word} {f : Word × Nat} (n : Nat) (h : flatRegion s.params a = some f) :
    busRead s a n = (flatRead s.mem f a n, s) := by simp only [busRead, h]

/-- A write to flat memory changes the memory alone. -/
theorem busWrite_flat {s : State} {a : Word} {f : Word × Nat} (n : Nat) (v : Word) (h : flatRegion s.params a = some f) :
    busWrite s a n v = { s with mem := flatWrite s.mem f a n v } := by simp only [busWrite, h]

/-- What a bus write can do: bytes of flat memory, or what a call can reach. -/
theorem busWrite_cases (s : State) (a : Word) (n : Nat) (v : Word) :
    (∃ f, flatRegion s.params a = some f ∧ busWrite s a n v = { s with mem := flatWrite s.mem f a n v }) ∨
      (flatRegion s.params a = none ∧ CallsKeep s (busWrite s a n v)) := by
  cases hf : flatRegion s.params a with
  | some f => exact .inl ⟨f, rfl, busWrite_flat n v hf⟩
  | none =>
    refine .inr ⟨rfl, ?_⟩
    simp only [busWrite, hf]
    cases hw : intcWriteAt s a (lowBytes v n) with
    | some t => exact intcWriteAt_keeps hw
    | none =>
      simp only
      split
      · exact deviceWriteOp_keeps s a n v
      · exact CallsKeep.refl s

/-! ### A collaborator sees no access costs -/

theorem updateIrq_costs (s : State) (d : List Nat) (c : Nat) :
    updateIrq { s with dataCosts := d, dataCycles := c } = { updateIrq s with dataCosts := d, dataCycles := c } := by
  unfold updateIrq
  dsimp only
  split
  · rfl
  · split <;> rfl

theorem runCall_costs (s : State) (x : Call) (d : List Nat) (c : Nat) :
    runCall { s with dataCosts := d, dataCycles := c } x = { runCall s x with dataCosts := d, dataCycles := c } := by
  cases x with
  | irq l =>
    simp only [runCall, setIrq]
    split
    · split
      · rfl
      · exact updateIrq_costs { s with intc := { s.intc with pending := setBit s.intc.pending l true } } d c
    · rfl
  | ack t =>
    simp only [runCall, acknowledgeIrq]
    split
    · rfl
    next l _ => exact updateIrq_costs { s with
        intc := { s.intc with threshold := t, pending := setBit s.intc.pending l false, latched := none }
        irqLine := false } d c
  | ctl l b =>
    simp only [runCall, writeCtl]
    split
    next h => exact updateIrq_costs { s with intc := { s.intc with ctl := s.intc.ctl.set l b h } } d c
    · rfl
  | sched id k t cb p =>
    simp only [runCall, scheduleEvent, show eventSlot { s with dataCosts := d, dataCycles := c } id = eventSlot s id from rfl]
    cases eventSlot s id with
    | none => rfl
    | some e => dsimp only; split <;> rfl
  | cancel id => rfl
  | halt1 => rfl

/-- What collaborators' calls do does not depend on the access costs recorded so far. -/
theorem runCalls_costs (s : State) (l : List Call) (d : List Nat) (c : Nat) :
    runCalls { s with dataCosts := d, dataCycles := c } l = { runCalls s l with dataCosts := d, dataCycles := c } := by
  induction l generalizing s with
  | nil => rfl
  | cons x r ih => exact (congrArg (fun t => runCalls t r) (runCall_costs s x d c)).trans (ih _)

end Sys2Proof.Machine
end

