-- ==== Sys2Proof/Laws/State.lean ====
section
/-! SUPPORT. One lemma per field per record update, each true by definition, so that no proof unfolds an update. -/

namespace Sys2Proof.Machine

variable (s : State)

/-! ### `setReg` -/

@[simp] theorem setReg_regs (i : Reg) (v : Word) : (setReg s i v).regs = s.regs.set i.toNat v i.isLt := rfl
@[simp] theorem setReg_bankFiq (i : Reg) (v : Word) : (setReg s i v).bankFiq = s.bankFiq := rfl
@[simp] theorem setReg_bankSvc (i : Reg) (v : Word) : (setReg s i v).bankSvc = s.bankSvc := rfl
@[simp] theorem setReg_bankAbt (i : Reg) (v : Word) : (setReg s i v).bankAbt = s.bankAbt := rfl
@[simp] theorem setReg_bankIrq (i : Reg) (v : Word) : (setReg s i v).bankIrq = s.bankIrq := rfl
@[simp] theorem setReg_bankUnd (i : Reg) (v : Word) : (setReg s i v).bankUnd = s.bankUnd := rfl
@[simp] theorem setReg_spsrFiq (i : Reg) (v : Word) : (setReg s i v).spsrFiq = s.spsrFiq := rfl
@[simp] theorem setReg_spsrSvc (i : Reg) (v : Word) : (setReg s i v).spsrSvc = s.spsrSvc := rfl
@[simp] theorem setReg_spsrAbt (i : Reg) (v : Word) : (setReg s i v).spsrAbt = s.spsrAbt := rfl
@[simp] theorem setReg_spsrIrq (i : Reg) (v : Word) : (setReg s i v).spsrIrq = s.spsrIrq := rfl
@[simp] theorem setReg_spsrUnd (i : Reg) (v : Word) : (setReg s i v).spsrUnd = s.spsrUnd := rfl
@[simp] theorem setReg_cpsr (i : Reg) (v : Word) : (setReg s i v).cpsr = s.cpsr := rfl
@[simp] theorem setReg_slot0 (i : Reg) (v : Word) : (setReg s i v).slot0 = s.slot0 := rfl
@[simp] theorem setReg_slot1 (i : Reg) (v : Word) : (setReg s i v).slot1 = s.slot1 := rfl
@[simp] theorem setReg_curInstr (i : Reg) (v : Word) : (setReg s i v).curInstr = s.curInstr := rfl
@[simp] theorem setReg_codeCycles (i : Reg) (v : Word) : (setReg s i v).codeCycles = s.codeCycles := rfl
@[simp] theorem setReg_dataCycles (i : Reg) (v : Word) : (setReg s i v).dataCycles = s.dataCycles := rfl
@[simp] theorem setReg_cycles (i : Reg) (v : Word) : (setReg s i v).cycles = s.cycles := rfl
@[simp] theorem setReg_now (i : Reg) (v : Word) : (setReg s i v).now = s.now := rfl
@[simp] theorem setReg_halt (i : Reg) (v : Word) : (setReg s i v).halt = s.halt := rfl
@[simp] theorem setReg_irqLine (i : Reg) (v : Word) : (setReg s i v).irqLine = s.irqLine := rfl
@[simp] theorem setReg_ctrl (i : Reg) (v : Word) : (setReg s i v).ctrl = s.ctrl := rfl
@[simp] theorem setReg_exceptionBase (i : Reg) (v : Word) : (setReg s i v).exceptionBase = s.exceptionBase := rfl
@[simp] theorem setReg_ic (i : Reg) (v : Word) : (setReg s i v).ic = s.ic := rfl
@[simp] theorem setReg_icRng (i : Reg) (v : Word) : (setReg s i v).icRng = s.icRng := rfl
@[simp] theorem setReg_intc (i : Reg) (v : Word) : (setReg s i v).intc = s.intc := rfl
@[simp] theorem setReg_sched (i : Reg) (v : Word) : (setReg s i v).sched = s.sched := rfl
@[simp] theorem setReg_frameCount (i : Reg) (v : Word) : (setReg s i v).frameCount = s.frameCount := rfl
@[simp] theorem setReg_lagFrame (i : Reg) (v : Word) : (setReg s i v).lagFrame = s.lagFrame := rfl
@[simp] theorem setReg_faulted (i : Reg) (v : Word) : (setReg s i v).faulted = s.faulted := rfl
@[simp] theorem setReg_mem (i : Reg) (v : Word) : (setReg s i v).mem = s.mem := rfl
@[simp] theorem setReg_params (i : Reg) (v : Word) : (setReg s i v).params = s.params := rfl
@[simp] theorem setReg_inputs (i : Reg) (v : Word) : (setReg s i v).inputs = s.inputs := rfl
@[simp] theorem setReg_dataCosts (i : Reg) (v : Word) : (setReg s i v).dataCosts = s.dataCosts := rfl
@[simp] theorem setReg_thumbStale (i : Reg) (v : Word) : (setReg s i v).thumbStale = s.thumbStale := rfl
@[simp] theorem setReg_draws (i : Reg) (v : Word) : (setReg s i v).draws = s.draws := rfl
@[simp] theorem setReg_activity (i : Reg) (v : Word) : (setReg s i v).activity = s.activity := rfl

/-! ### `setFlags` -/

@[simp] theorem setFlags_regs (w : Word) : (setFlags s w).regs = s.regs := rfl
@[simp] theorem setFlags_bankFiq (w : Word) : (setFlags s w).bankFiq = s.bankFiq := rfl
@[simp] theorem setFlags_bankSvc (w : Word) : (setFlags s w).bankSvc = s.bankSvc := rfl
@[simp] theorem setFlags_bankAbt (w : Word) : (setFlags s w).bankAbt = s.bankAbt := rfl
@[simp] theorem setFlags_bankIrq (w : Word) : (setFlags s w).bankIrq = s.bankIrq := rfl
@[simp] theorem setFlags_bankUnd (w : Word) : (setFlags s w).bankUnd = s.bankUnd := rfl
@[simp] theorem setFlags_spsrFiq (w : Word) : (setFlags s w).spsrFiq = s.spsrFiq := rfl
@[simp] theorem setFlags_spsrSvc (w : Word) : (setFlags s w).spsrSvc = s.spsrSvc := rfl
@[simp] theorem setFlags_spsrAbt (w : Word) : (setFlags s w).spsrAbt = s.spsrAbt := rfl
@[simp] theorem setFlags_spsrIrq (w : Word) : (setFlags s w).spsrIrq = s.spsrIrq := rfl
@[simp] theorem setFlags_spsrUnd (w : Word) : (setFlags s w).spsrUnd = s.spsrUnd := rfl
@[simp] theorem setFlags_cpsr (w : Word) : (setFlags s w).cpsr = w := rfl
@[simp] theorem setFlags_slot0 (w : Word) : (setFlags s w).slot0 = s.slot0 := rfl
@[simp] theorem setFlags_slot1 (w : Word) : (setFlags s w).slot1 = s.slot1 := rfl
@[simp] theorem setFlags_curInstr (w : Word) : (setFlags s w).curInstr = s.curInstr := rfl
@[simp] theorem setFlags_codeCycles (w : Word) : (setFlags s w).codeCycles = s.codeCycles := rfl
@[simp] theorem setFlags_dataCycles (w : Word) : (setFlags s w).dataCycles = s.dataCycles := rfl
@[simp] theorem setFlags_cycles (w : Word) : (setFlags s w).cycles = s.cycles := rfl
@[simp] theorem setFlags_now (w : Word) : (setFlags s w).now = s.now := rfl
@[simp] theorem setFlags_halt (w : Word) : (setFlags s w).halt = s.halt := rfl
@[simp] theorem setFlags_irqLine (w : Word) : (setFlags s w).irqLine = s.irqLine := rfl
@[simp] theorem setFlags_ctrl (w : Word) : (setFlags s w).ctrl = s.ctrl := rfl
@[simp] theorem setFlags_exceptionBase (w : Word) : (setFlags s w).exceptionBase = s.exceptionBase := rfl
@[simp] theorem setFlags_ic (w : Word) : (setFlags s w).ic = s.ic := rfl
@[simp] theorem setFlags_icRng (w : Word) : (setFlags s w).icRng = s.icRng := rfl
@[simp] theorem setFlags_intc (w : Word) : (setFlags s w).intc = s.intc := rfl
@[simp] theorem setFlags_sched (w : Word) : (setFlags s w).sched = s.sched := rfl
@[simp] theorem setFlags_frameCount (w : Word) : (setFlags s w).frameCount = s.frameCount := rfl
@[simp] theorem setFlags_lagFrame (w : Word) : (setFlags s w).lagFrame = s.lagFrame := rfl
@[simp] theorem setFlags_faulted (w : Word) : (setFlags s w).faulted = s.faulted := rfl
@[simp] theorem setFlags_mem (w : Word) : (setFlags s w).mem = s.mem := rfl
@[simp] theorem setFlags_params (w : Word) : (setFlags s w).params = s.params := rfl
@[simp] theorem setFlags_inputs (w : Word) : (setFlags s w).inputs = s.inputs := rfl
@[simp] theorem setFlags_dataCosts (w : Word) : (setFlags s w).dataCosts = s.dataCosts := rfl
@[simp] theorem setFlags_thumbStale (w : Word) : (setFlags s w).thumbStale = s.thumbStale := rfl
@[simp] theorem setFlags_draws (w : Word) : (setFlags s w).draws = s.draws := rfl
@[simp] theorem setFlags_activity (w : Word) : (setFlags s w).activity = s.activity := rfl

/-! ### `chargeFetch` -/

@[simp] theorem chargeFetch_regs : (chargeFetch s).regs = s.regs := rfl
@[simp] theorem chargeFetch_bankFiq : (chargeFetch s).bankFiq = s.bankFiq := rfl
@[simp] theorem chargeFetch_bankSvc : (chargeFetch s).bankSvc = s.bankSvc := rfl
@[simp] theorem chargeFetch_bankAbt : (chargeFetch s).bankAbt = s.bankAbt := rfl
@[simp] theorem chargeFetch_bankIrq : (chargeFetch s).bankIrq = s.bankIrq := rfl
@[simp] theorem chargeFetch_bankUnd : (chargeFetch s).bankUnd = s.bankUnd := rfl
@[simp] theorem chargeFetch_spsrFiq : (chargeFetch s).spsrFiq = s.spsrFiq := rfl
@[simp] theorem chargeFetch_spsrSvc : (chargeFetch s).spsrSvc = s.spsrSvc := rfl
@[simp] theorem chargeFetch_spsrAbt : (chargeFetch s).spsrAbt = s.spsrAbt := rfl
@[simp] theorem chargeFetch_spsrIrq : (chargeFetch s).spsrIrq = s.spsrIrq := rfl
@[simp] theorem chargeFetch_spsrUnd : (chargeFetch s).spsrUnd = s.spsrUnd := rfl
@[simp] theorem chargeFetch_cpsr : (chargeFetch s).cpsr = s.cpsr := rfl
@[simp] theorem chargeFetch_slot0 : (chargeFetch s).slot0 = s.slot0 := rfl
@[simp] theorem chargeFetch_slot1 : (chargeFetch s).slot1 = s.slot1 := rfl
@[simp] theorem chargeFetch_curInstr : (chargeFetch s).curInstr = s.curInstr := rfl
@[simp] theorem chargeFetch_codeCycles : (chargeFetch s).codeCycles = s.codeCycles := rfl
@[simp] theorem chargeFetch_dataCycles : (chargeFetch s).dataCycles = s.dataCycles := rfl
@[simp] theorem chargeFetch_cycles : (chargeFetch s).cycles = s.cycles + s.codeCycles := rfl
@[simp] theorem chargeFetch_now : (chargeFetch s).now = s.now := rfl
@[simp] theorem chargeFetch_halt : (chargeFetch s).halt = s.halt := rfl
@[simp] theorem chargeFetch_irqLine : (chargeFetch s).irqLine = s.irqLine := rfl
@[simp] theorem chargeFetch_ctrl : (chargeFetch s).ctrl = s.ctrl := rfl
@[simp] theorem chargeFetch_exceptionBase : (chargeFetch s).exceptionBase = s.exceptionBase := rfl
@[simp] theorem chargeFetch_ic : (chargeFetch s).ic = s.ic := rfl
@[simp] theorem chargeFetch_icRng : (chargeFetch s).icRng = s.icRng := rfl
@[simp] theorem chargeFetch_intc : (chargeFetch s).intc = s.intc := rfl
@[simp] theorem chargeFetch_sched : (chargeFetch s).sched = s.sched := rfl
@[simp] theorem chargeFetch_frameCount : (chargeFetch s).frameCount = s.frameCount := rfl
@[simp] theorem chargeFetch_lagFrame : (chargeFetch s).lagFrame = s.lagFrame := rfl
@[simp] theorem chargeFetch_faulted : (chargeFetch s).faulted = s.faulted := rfl
@[simp] theorem chargeFetch_mem : (chargeFetch s).mem = s.mem := rfl
@[simp] theorem chargeFetch_params : (chargeFetch s).params = s.params := rfl
@[simp] theorem chargeFetch_inputs : (chargeFetch s).inputs = s.inputs := rfl
@[simp] theorem chargeFetch_dataCosts : (chargeFetch s).dataCosts = s.dataCosts := rfl
@[simp] theorem chargeFetch_thumbStale : (chargeFetch s).thumbStale = s.thumbStale := rfl
@[simp] theorem chargeFetch_draws : (chargeFetch s).draws = s.draws := rfl
@[simp] theorem chargeFetch_activity : (chargeFetch s).activity = s.activity := rfl

/-! ### `recordAccess` -/

@[simp] theorem recordAccess_regs (a : Word) (n : Width) : (recordAccess s a n).regs = s.regs := rfl
@[simp] theorem recordAccess_bankFiq (a : Word) (n : Width) : (recordAccess s a n).bankFiq = s.bankFiq := rfl
@[simp] theorem recordAccess_bankSvc (a : Word) (n : Width) : (recordAccess s a n).bankSvc = s.bankSvc := rfl
@[simp] theorem recordAccess_bankAbt (a : Word) (n : Width) : (recordAccess s a n).bankAbt = s.bankAbt := rfl
@[simp] theorem recordAccess_bankIrq (a : Word) (n : Width) : (recordAccess s a n).bankIrq = s.bankIrq := rfl
@[simp] theorem recordAccess_bankUnd (a : Word) (n : Width) : (recordAccess s a n).bankUnd = s.bankUnd := rfl
@[simp] theorem recordAccess_spsrFiq (a : Word) (n : Width) : (recordAccess s a n).spsrFiq = s.spsrFiq := rfl
@[simp] theorem recordAccess_spsrSvc (a : Word) (n : Width) : (recordAccess s a n).spsrSvc = s.spsrSvc := rfl
@[simp] theorem recordAccess_spsrAbt (a : Word) (n : Width) : (recordAccess s a n).spsrAbt = s.spsrAbt := rfl
@[simp] theorem recordAccess_spsrIrq (a : Word) (n : Width) : (recordAccess s a n).spsrIrq = s.spsrIrq := rfl
@[simp] theorem recordAccess_spsrUnd (a : Word) (n : Width) : (recordAccess s a n).spsrUnd = s.spsrUnd := rfl
@[simp] theorem recordAccess_cpsr (a : Word) (n : Width) : (recordAccess s a n).cpsr = s.cpsr := rfl
@[simp] theorem recordAccess_slot0 (a : Word) (n : Width) : (recordAccess s a n).slot0 = s.slot0 := rfl
@[simp] theorem recordAccess_slot1 (a : Word) (n : Width) : (recordAccess s a n).slot1 = s.slot1 := rfl
@[simp] theorem recordAccess_curInstr (a : Word) (n : Width) : (recordAccess s a n).curInstr = s.curInstr := rfl
@[simp] theorem recordAccess_codeCycles (a : Word) (n : Width) : (recordAccess s a n).codeCycles = s.codeCycles := rfl
@[simp] theorem recordAccess_dataCycles (a : Word) (n : Width) : (recordAccess s a n).dataCycles =
    Config.dataCost a n.bytes (!s.dataCosts.isEmpty) :=
  rfl
@[simp] theorem recordAccess_cycles (a : Word) (n : Width) : (recordAccess s a n).cycles = s.cycles := rfl
@[simp] theorem recordAccess_now (a : Word) (n : Width) : (recordAccess s a n).now = s.now := rfl
@[simp] theorem recordAccess_halt (a : Word) (n : Width) : (recordAccess s a n).halt = s.halt := rfl
@[simp] theorem recordAccess_irqLine (a : Word) (n : Width) : (recordAccess s a n).irqLine = s.irqLine := rfl
@[simp] theorem recordAccess_ctrl (a : Word) (n : Width) : (recordAccess s a n).ctrl = s.ctrl := rfl
@[simp] theorem recordAccess_exceptionBase (a : Word) (n : Width) : (recordAccess s a n).exceptionBase =
    s.exceptionBase :=
  rfl
@[simp] theorem recordAccess_ic (a : Word) (n : Width) : (recordAccess s a n).ic = s.ic := rfl
@[simp] theorem recordAccess_icRng (a : Word) (n : Width) : (recordAccess s a n).icRng = s.icRng := rfl
@[simp] theorem recordAccess_intc (a : Word) (n : Width) : (recordAccess s a n).intc = s.intc := rfl
@[simp] theorem recordAccess_sched (a : Word) (n : Width) : (recordAccess s a n).sched = s.sched := rfl
@[simp] theorem recordAccess_frameCount (a : Word) (n : Width) : (recordAccess s a n).frameCount = s.frameCount := rfl
@[simp] theorem recordAccess_lagFrame (a : Word) (n : Width) : (recordAccess s a n).lagFrame = s.lagFrame := rfl
@[simp] theorem recordAccess_faulted (a : Word) (n : Width) : (recordAccess s a n).faulted = s.faulted := rfl
@[simp] theorem recordAccess_mem (a : Word) (n : Width) : (recordAccess s a n).mem = s.mem := rfl
@[simp] theorem recordAccess_params (a : Word) (n : Width) : (recordAccess s a n).params = s.params := rfl
@[simp] theorem recordAccess_inputs (a : Word) (n : Width) : (recordAccess s a n).inputs = s.inputs := rfl
@[simp] theorem recordAccess_dataCosts (a : Word) (n : Width) : (recordAccess s a n).dataCosts =
    s.dataCosts ++ [Config.dataCost a n.bytes (!s.dataCosts.isEmpty)] :=
  rfl
@[simp] theorem recordAccess_thumbStale (a : Word) (n : Width) : (recordAccess s a n).thumbStale = s.thumbStale := rfl
@[simp] theorem recordAccess_draws (a : Word) (n : Width) : (recordAccess s a n).draws = s.draws := rfl
@[simp] theorem recordAccess_activity (a : Word) (n : Width) : (recordAccess s a n).activity = s.activity := rfl

/-! ### `setCacheSet` -/

@[simp] theorem setCacheSet_regs (i : Fin 64) (c : CacheSet) : (setCacheSet s i c).regs = s.regs := rfl
@[simp] theorem setCacheSet_bankFiq (i : Fin 64) (c : CacheSet) : (setCacheSet s i c).bankFiq = s.bankFiq := rfl
@[simp] theorem setCacheSet_bankSvc (i : Fin 64) (c : CacheSet) : (setCacheSet s i c).bankSvc = s.bankSvc := rfl
@[simp] theorem setCacheSet_bankAbt (i : Fin 64) (c : CacheSet) : (setCacheSet s i c).bankAbt = s.bankAbt := rfl
@[simp] theorem setCacheSet_bankIrq (i : Fin 64) (c : CacheSet) : (setCacheSet s i c).bankIrq = s.bankIrq := rfl
@[simp] theorem setCacheSet_bankUnd (i : Fin 64) (c : CacheSet) : (setCacheSet s i c).bankUnd = s.bankUnd := rfl
@[simp] theorem setCacheSet_spsrFiq (i : Fin 64) (c : CacheSet) : (setCacheSet s i c).spsrFiq = s.spsrFiq := rfl
@[simp] theorem setCacheSet_spsrSvc (i : Fin 64) (c : CacheSet) : (setCacheSet s i c).spsrSvc = s.spsrSvc := rfl
@[simp] theorem setCacheSet_spsrAbt (i : Fin 64) (c : CacheSet) : (setCacheSet s i c).spsrAbt = s.spsrAbt := rfl
@[simp] theorem setCacheSet_spsrIrq (i : Fin 64) (c : CacheSet) : (setCacheSet s i c).spsrIrq = s.spsrIrq := rfl
@[simp] theorem setCacheSet_spsrUnd (i : Fin 64) (c : CacheSet) : (setCacheSet s i c).spsrUnd = s.spsrUnd := rfl
@[simp] theorem setCacheSet_cpsr (i : Fin 64) (c : CacheSet) : (setCacheSet s i c).cpsr = s.cpsr := rfl
@[simp] theorem setCacheSet_slot0 (i : Fin 64) (c : CacheSet) : (setCacheSet s i c).slot0 = s.slot0 := rfl
@[simp] theorem setCacheSet_slot1 (i : Fin 64) (c : CacheSet) : (setCacheSet s i c).slot1 = s.slot1 := rfl
@[simp] theorem setCacheSet_curInstr (i : Fin 64) (c : CacheSet) : (setCacheSet s i c).curInstr = s.curInstr := rfl
@[simp] theorem setCacheSet_codeCycles (i : Fin 64) (c : CacheSet) : (setCacheSet s i c).codeCycles = s.codeCycles :=
  rfl
@[simp] theorem setCacheSet_dataCycles (i : Fin 64) (c : CacheSet) : (setCacheSet s i c).dataCycles = s.dataCycles :=
  rfl
@[simp] theorem setCacheSet_cycles (i : Fin 64) (c : CacheSet) : (setCacheSet s i c).cycles = s.cycles := rfl
@[simp] theorem setCacheSet_now (i : Fin 64) (c : CacheSet) : (setCacheSet s i c).now = s.now := rfl
@[simp] theorem setCacheSet_halt (i : Fin 64) (c : CacheSet) : (setCacheSet s i c).halt = s.halt := rfl
@[simp] theorem setCacheSet_irqLine (i : Fin 64) (c : CacheSet) : (setCacheSet s i c).irqLine = s.irqLine := rfl
@[simp] theorem setCacheSet_ctrl (i : Fin 64) (c : CacheSet) : (setCacheSet s i c).ctrl = s.ctrl := rfl
@[simp] theorem setCacheSet_exceptionBase (i : Fin 64) (c : CacheSet) : (setCacheSet s i c).exceptionBase =
    s.exceptionBase :=
  rfl
@[simp] theorem setCacheSet_ic (i : Fin 64) (c : CacheSet) : (setCacheSet s i c).ic = s.ic.set i.val c i.isLt := rfl
@[simp] theorem setCacheSet_icRng (i : Fin 64) (c : CacheSet) : (setCacheSet s i c).icRng = s.icRng := rfl
@[simp] theorem setCacheSet_intc (i : Fin 64) (c : CacheSet) : (setCacheSet s i c).intc = s.intc := rfl
@[simp] theorem setCacheSet_sched (i : Fin 64) (c : CacheSet) : (setCacheSet s i c).sched = s.sched := rfl
@[simp] theorem setCacheSet_frameCount (i : Fin 64) (c : CacheSet) : (setCacheSet s i c).frameCount = s.frameCount :=
  rfl
@[simp] theorem setCacheSet_lagFrame (i : Fin 64) (c : CacheSet) : (setCacheSet s i c).lagFrame = s.lagFrame := rfl
@[simp] theorem setCacheSet_faulted (i : Fin 64) (c : CacheSet) : (setCacheSet s i c).faulted = s.faulted := rfl
@[simp] theorem setCacheSet_mem (i : Fin 64) (c : CacheSet) : (setCacheSet s i c).mem = s.mem := rfl
@[simp] theorem setCacheSet_params (i : Fin 64) (c : CacheSet) : (setCacheSet s i c).params = s.params := rfl
@[simp] theorem setCacheSet_inputs (i : Fin 64) (c : CacheSet) : (setCacheSet s i c).inputs = s.inputs := rfl
@[simp] theorem setCacheSet_dataCosts (i : Fin 64) (c : CacheSet) : (setCacheSet s i c).dataCosts = s.dataCosts := rfl
@[simp] theorem setCacheSet_thumbStale (i : Fin 64) (c : CacheSet) : (setCacheSet s i c).thumbStale = s.thumbStale :=
  rfl
@[simp] theorem setCacheSet_draws (i : Fin 64) (c : CacheSet) : (setCacheSet s i c).draws = s.draws := rfl
@[simp] theorem setCacheSet_activity (i : Fin 64) (c : CacheSet) : (setCacheSet s i c).activity = s.activity := rfl

/-! ### `waitUntil` -/

@[simp] theorem waitUntil_regs (t : Nat) : (waitUntil s t).regs = s.regs := rfl
@[simp] theorem waitUntil_bankFiq (t : Nat) : (waitUntil s t).bankFiq = s.bankFiq := rfl
@[simp] theorem waitUntil_bankSvc (t : Nat) : (waitUntil s t).bankSvc = s.bankSvc := rfl
@[simp] theorem waitUntil_bankAbt (t : Nat) : (waitUntil s t).bankAbt = s.bankAbt := rfl
@[simp] theorem waitUntil_bankIrq (t : Nat) : (waitUntil s t).bankIrq = s.bankIrq := rfl
@[simp] theorem waitUntil_bankUnd (t : Nat) : (waitUntil s t).bankUnd = s.bankUnd := rfl
@[simp] theorem waitUntil_spsrFiq (t : Nat) : (waitUntil s t).spsrFiq = s.spsrFiq := rfl
@[simp] theorem waitUntil_spsrSvc (t : Nat) : (waitUntil s t).spsrSvc = s.spsrSvc := rfl
@[simp] theorem waitUntil_spsrAbt (t : Nat) : (waitUntil s t).spsrAbt = s.spsrAbt := rfl
@[simp] theorem waitUntil_spsrIrq (t : Nat) : (waitUntil s t).spsrIrq = s.spsrIrq := rfl
@[simp] theorem waitUntil_spsrUnd (t : Nat) : (waitUntil s t).spsrUnd = s.spsrUnd := rfl
@[simp] theorem waitUntil_cpsr (t : Nat) : (waitUntil s t).cpsr = s.cpsr := rfl
@[simp] theorem waitUntil_slot0 (t : Nat) : (waitUntil s t).slot0 = s.slot0 := rfl
@[simp] theorem waitUntil_slot1 (t : Nat) : (waitUntil s t).slot1 = s.slot1 := rfl
@[simp] theorem waitUntil_curInstr (t : Nat) : (waitUntil s t).curInstr = s.curInstr := rfl
@[simp] theorem waitUntil_codeCycles (t : Nat) : (waitUntil s t).codeCycles = s.codeCycles := rfl
@[simp] theorem waitUntil_dataCycles (t : Nat) : (waitUntil s t).dataCycles = s.dataCycles := rfl
@[simp] theorem waitUntil_cycles (t : Nat) : (waitUntil s t).cycles = s.cycles := rfl
@[simp] theorem waitUntil_now (t : Nat) : (waitUntil s t).now = max s.now t := rfl
@[simp] theorem waitUntil_halt (t : Nat) : (waitUntil s t).halt = s.halt := rfl
@[simp] theorem waitUntil_irqLine (t : Nat) : (waitUntil s t).irqLine = s.irqLine := rfl
@[simp] theorem waitUntil_ctrl (t : Nat) : (waitUntil s t).ctrl = s.ctrl := rfl
@[simp] theorem waitUntil_exceptionBase (t : Nat) : (waitUntil s t).exceptionBase = s.exceptionBase := rfl
@[simp] theorem waitUntil_ic (t : Nat) : (waitUntil s t).ic = s.ic := rfl
@[simp] theorem waitUntil_icRng (t : Nat) : (waitUntil s t).icRng = s.icRng := rfl
@[simp] theorem waitUntil_intc (t : Nat) : (waitUntil s t).intc = s.intc := rfl
@[simp] theorem waitUntil_sched (t : Nat) : (waitUntil s t).sched = s.sched := rfl
@[simp] theorem waitUntil_frameCount (t : Nat) : (waitUntil s t).frameCount = s.frameCount := rfl
@[simp] theorem waitUntil_lagFrame (t : Nat) : (waitUntil s t).lagFrame = s.lagFrame := rfl
@[simp] theorem waitUntil_faulted (t : Nat) : (waitUntil s t).faulted = s.faulted := rfl
@[simp] theorem waitUntil_mem (t : Nat) : (waitUntil s t).mem = s.mem := rfl
@[simp] theorem waitUntil_params (t : Nat) : (waitUntil s t).params = s.params := rfl
@[simp] theorem waitUntil_inputs (t : Nat) : (waitUntil s t).inputs = s.inputs := rfl
@[simp] theorem waitUntil_dataCosts (t : Nat) : (waitUntil s t).dataCosts = s.dataCosts := rfl
@[simp] theorem waitUntil_thumbStale (t : Nat) : (waitUntil s t).thumbStale = s.thumbStale := rfl
@[simp] theorem waitUntil_draws (t : Nat) : (waitUntil s t).draws = s.draws := rfl
@[simp] theorem waitUntil_activity (t : Nat) : (waitUntil s t).activity = s.activity := rfl

/-! ### `begun` -/

@[simp] theorem begun_regs : (begun s).regs = s.regs := rfl
@[simp] theorem begun_bankFiq : (begun s).bankFiq = s.bankFiq := rfl
@[simp] theorem begun_bankSvc : (begun s).bankSvc = s.bankSvc := rfl
@[simp] theorem begun_bankAbt : (begun s).bankAbt = s.bankAbt := rfl
@[simp] theorem begun_bankIrq : (begun s).bankIrq = s.bankIrq := rfl
@[simp] theorem begun_bankUnd : (begun s).bankUnd = s.bankUnd := rfl
@[simp] theorem begun_spsrFiq : (begun s).spsrFiq = s.spsrFiq := rfl
@[simp] theorem begun_spsrSvc : (begun s).spsrSvc = s.spsrSvc := rfl
@[simp] theorem begun_spsrAbt : (begun s).spsrAbt = s.spsrAbt := rfl
@[simp] theorem begun_spsrIrq : (begun s).spsrIrq = s.spsrIrq := rfl
@[simp] theorem begun_spsrUnd : (begun s).spsrUnd = s.spsrUnd := rfl
@[simp] theorem begun_cpsr : (begun s).cpsr = s.cpsr := rfl
@[simp] theorem begun_slot0 : (begun s).slot0 = s.slot0 := rfl
@[simp] theorem begun_slot1 : (begun s).slot1 = s.slot1 := rfl
@[simp] theorem begun_curInstr : (begun s).curInstr = s.curInstr := rfl
@[simp] theorem begun_codeCycles : (begun s).codeCycles = s.codeCycles := rfl
@[simp] theorem begun_dataCycles : (begun s).dataCycles = s.dataCycles := rfl
@[simp] theorem begun_cycles : (begun s).cycles = s.cycles := rfl
@[simp] theorem begun_now : (begun s).now = s.now := rfl
@[simp] theorem begun_halt : (begun s).halt = s.halt := rfl
@[simp] theorem begun_irqLine : (begun s).irqLine = s.irqLine := rfl
@[simp] theorem begun_ctrl : (begun s).ctrl = s.ctrl := rfl
@[simp] theorem begun_exceptionBase : (begun s).exceptionBase = s.exceptionBase := rfl
@[simp] theorem begun_ic : (begun s).ic = s.ic := rfl
@[simp] theorem begun_icRng : (begun s).icRng = s.icRng := rfl
@[simp] theorem begun_intc : (begun s).intc = s.intc := rfl
@[simp] theorem begun_sched : (begun s).sched = s.sched := rfl
@[simp] theorem begun_frameCount : (begun s).frameCount = s.frameCount := rfl
@[simp] theorem begun_lagFrame : (begun s).lagFrame = s.lagFrame := rfl
@[simp] theorem begun_faulted : (begun s).faulted = s.faulted := rfl
@[simp] theorem begun_mem : (begun s).mem = s.mem := rfl
@[simp] theorem begun_params : (begun s).params = s.params := rfl
@[simp] theorem begun_inputs : (begun s).inputs = s.inputs := rfl
@[simp] theorem begun_dataCosts : (begun s).dataCosts = [] := rfl
@[simp] theorem begun_thumbStale : (begun s).thumbStale = s.thumbStale := rfl
@[simp] theorem begun_draws : (begun s).draws = s.draws := rfl
@[simp] theorem begun_activity : (begun s).activity = s.activity := rfl

end Sys2Proof.Machine
end

