-- ==== Sys2Proof/Laws/Ops.lean ====
section
/-! SUPPORT. What each shared operation can do, said once: registers, fetches, jumps, accesses, running an instruction. -/

namespace Sys2Proof.Machine

/-! ### Registers -/

theorem reg_setReg (s : State) (i j : Reg) (v : Word) : reg (setReg s i v) j = if j = i then v else reg s j := by
  simp only [reg, setReg, Vector.get_eq_getElem, Vector.getElem_set]
  have e : (i.toNat = (BitVec.toFin j).val) ↔ j = i :=
    ⟨fun h => BitVec.eq_of_toNat_eq h.symm, fun h => h ▸ rfl⟩
  simp only [e]

@[simp] theorem reg_setReg_same (s : State) (i : Reg) (v : Word) : reg (setReg s i v) i = v := by
  rw [reg_setReg, if_pos rfl]

theorem reg_setReg_ne (s : State) {i j : Reg} (v : Word) (h : j ≠ i) : reg (setReg s i v) j = reg s j := by
  rw [reg_setReg, if_neg h]

/-- A register read depends on the live file alone. -/
theorem reg_congr {s t : State} (h : t.regs = s.regs) (i : Reg) : reg t i = reg s i := by rw [reg, reg, h]

theorem writeback_eq (s : State) (wb : Bool) (rn : Reg) (m : Word) :
    writeback s wb rn m = bif wb then setReg s rn m else s := by cases wb <;> rfl

/-! ### Sequencing -/

@[simp] theorem Res.bind_ok {α β : Type} (a : α) (s : State) (f : α → State → Res β) :
    Res.bind (.ok a s) f = f a s := rfl

@[simp] theorem Res.bind_trap {α β : Type} (s : State) (f : α → State → Res β) : Res.bind (.trap s) f = .trap s := rfl

theorem Res.bind_assoc {α β γ : Type} (r : Res α) (f : α → State → Res β) (g : β → State → Res γ) :
    (r.bind f).bind g = r.bind fun a t => (f a t).bind g := by cases r <;> rfl

@[simp] theorem Res.bind_fault {α β : Type} (e : Fault) (f : α → State → Res β) :
    Res.bind (.fault e) f = .fault e := rfl

@[simp] theorem unpredictableIf_false {α : Type} (e : Fault) (r : Res α) : unpredictableIf false e r = r := rfl

@[simp] theorem unpredictableIf_true {α : Type} (e : Fault) (r : Res α) : unpredictableIf true e r = .fault e := rfl

@[simp] theorem shouldBe_true {α : Type} (r : Res α) : shouldBe true r = r := rfl

@[simp] theorem shouldBe_false {α : Type} (r : Res α) : shouldBe false r = .fault .shouldBe := rfl

/-- An instruction whose condition passes runs. -/
theorem runIf_pass {c : BitVec 4} {s : State} (body : State → Res Unit) (h : checkCondition s c = true) :
    runIf c s body = run s body := by rw [runIf, if_pos h]

/-- An instruction whose condition fails costs its fetch (R422). -/
theorem runIf_fail {c : BitVec 4} {s : State} (body : State → Res Unit) (h : checkCondition s c = false) :
    runIf c s body = .next (chargeFetch s) := by rw [runIf, h]; rfl

/-- The state a run ends in, charged (R425). -/
def charged (s t : State) : State :=
  { t with cycles := t.cycles + Config.execCycles s.curInstr (flagT s) s.codeCycles t.dataCosts }

theorem finish_ok (s t : State) : finish s (.ok () t) = .next (charged s t) := rfl

theorem finish_trap (s t : State) : finish s (.trap t) = .next (charged s t) := rfl

theorem finish_fault (s : State) (f : Fault) : finish s (.fault f) = .fault f := rfl

/-- A run never refuses. -/
theorem run_ne_refused (s : State) (body : State → Res Unit) (r : Refusal) : run s body ≠ .refused r := by
  unfold run
  cases body (begun s) <;> simp [finish]

/-! ### Fetches and jumps -/

/-- Everything a code fetch cannot change (R230): all but the fetch cost, the cache, and what a peripheral's
calls reach. -/
structure FetchKeep (s t : State) : Prop where
  regs : t.regs = s.regs
  bankFiq : t.bankFiq = s.bankFiq
  bankSvc : t.bankSvc = s.bankSvc
  bankAbt : t.bankAbt = s.bankAbt
  bankIrq : t.bankIrq = s.bankIrq
  bankUnd : t.bankUnd = s.bankUnd
  spsrFiq : t.spsrFiq = s.spsrFiq
  spsrSvc : t.spsrSvc = s.spsrSvc
  spsrAbt : t.spsrAbt = s.spsrAbt
  spsrIrq : t.spsrIrq = s.spsrIrq
  spsrUnd : t.spsrUnd = s.spsrUnd
  cpsr : t.cpsr = s.cpsr
  slot0 : t.slot0 = s.slot0
  slot1 : t.slot1 = s.slot1
  curInstr : t.curInstr = s.curInstr
  dataCycles : t.dataCycles = s.dataCycles
  cycles : t.cycles = s.cycles
  now : t.now = s.now
  ctrl : t.ctrl = s.ctrl
  exceptionBase : t.exceptionBase = s.exceptionBase
  frameCount : t.frameCount = s.frameCount
  lagFrame : t.lagFrame = s.lagFrame
  faulted : t.faulted = s.faulted
  mem : t.mem = s.mem
  params : t.params = s.params
  dataCosts : t.dataCosts = s.dataCosts
  thumbStale : t.thumbStale = s.thumbStale

theorem FetchKeep.refl (s : State) : FetchKeep s s := by constructor <;> rfl

theorem FetchKeep.trans {s t u : State} (h : FetchKeep s t) (g : FetchKeep t u) : FetchKeep s u := by
  cases h; cases g
  constructor <;> (first | (simp only [*]))

theorem CallsKeep.fetch {s t : State} (h : CallsKeep s t) : FetchKeep s t := by
  cases h; constructor <;> assumption

theorem setCacheSet_fetch (s : State) (i : Fin 64) (c : CacheSet) : FetchKeep s (setCacheSet s i c) := by
  constructor <;> rfl

theorem victimWay_fetch (s : State) (i : Fin 64) : FetchKeep s (victimWay s i).2 := by
  unfold victimWay
  split <;> constructor <;> rfl

theorem busFill_keeps (n : Nat) (s : State) (a : Word) : CallsKeep s (busFill n s a).2 := by
  induction n generalizing s a with
  | zero => exact CallsKeep.refl s
  | succ n ih => exact (busRead_keeps s a 1).trans (ih _ _)

theorem lineFill_keeps (s : State) (b : Word) : CallsKeep s (lineFill s b).2 := by
  unfold lineFill
  split
  · exact CallsKeep.refl s
  · dsimp only
    exact busFill_keeps 32 s b

theorem cacheMiss_fetch (s : State) (a : Word) (n : Nat) : FetchKeep s (cacheMiss s a n).2.2 :=
  (victimWay_fetch s _).trans ((lineFill_keeps _ _).fetch.trans (setCacheSet_fetch _ _ _))

theorem cacheLookup_fetch (s : State) (a : Word) (n : Nat) : FetchKeep s (cacheLookup s a n).2.2 := by
  unfold cacheLookup
  split
  · exact FetchKeep.refl s
  · exact cacheMiss_fetch s a n

/-- What a code fetch can do: nothing to registers, status, control or memory. -/
theorem fetchCode_fetch (s : State) (a : Word) (n : Width) (q : Bool) : FetchKeep s (fetchCode s a n q).2 := by
  unfold fetchCode
  split
  · exact (cacheLookup_fetch s a n.bytes).trans (by constructor <;> rfl)
  · exact ((busRead_keeps s a n.bytes).fetch).trans (by constructor <;> rfl)

/-- A fetch of flat memory with caching off (R230): the bytes, the cost, and nothing else changed. -/
theorem fetchCode_flat {s : State} {a : Word} {f : Word × Nat} (n : Width) (q : Bool) (hc : cachingActive s = false)
    (hf : flatRegion s.params a = some f) :
    fetchCode s a n q = (flatRead s.mem f a n.bytes, { s with codeCycles := Config.codeCost a n.bytes q }) := by
  unfold fetchCode
  rw [hc, busRead_flat n.bytes hf]
  rfl

/-- Everything a jump cannot change: all but R15, CPSR.T, the slots, `cycles`, and what a fetch changes (R410). -/
structure JumpKeep (s t : State) : Prop where
  regs : ∀ i : Reg, i ≠ 15#4 → reg t i = reg s i
  bankFiq : t.bankFiq = s.bankFiq
  bankSvc : t.bankSvc = s.bankSvc
  bankAbt : t.bankAbt = s.bankAbt
  bankIrq : t.bankIrq = s.bankIrq
  bankUnd : t.bankUnd = s.bankUnd
  spsrFiq : t.spsrFiq = s.spsrFiq
  spsrSvc : t.spsrSvc = s.spsrSvc
  spsrAbt : t.spsrAbt = s.spsrAbt
  spsrIrq : t.spsrIrq = s.spsrIrq
  spsrUnd : t.spsrUnd = s.spsrUnd
  curInstr : t.curInstr = s.curInstr
  dataCycles : t.dataCycles = s.dataCycles
  now : t.now = s.now
  ctrl : t.ctrl = s.ctrl
  exceptionBase : t.exceptionBase = s.exceptionBase
  frameCount : t.frameCount = s.frameCount
  lagFrame : t.lagFrame = s.lagFrame
  faulted : t.faulted = s.faulted
  mem : t.mem = s.mem
  params : t.params = s.params
  dataCosts : t.dataCosts = s.dataCosts

theorem chargedFetch_regs (s : State) (a : Word) (n : Width) (q : Bool) :
    (chargedFetch s a n q).2.regs = s.regs := (fetchCode_fetch s a n q).regs

/-- What the end of a jump can do (R410). -/
theorem refill_keep (s : State) (a : Word) (n : Width) : JumpKeep s (refill s a n) := by
  have f1 := fetchCode_fetch (setReg s 15#4 (a + n.size)) a n false
  have f2 := fetchCode_fetch
    { (chargedFetch (setReg s 15#4 (a + n.size)) a n false).2 with
      slot0 := (chargedFetch (setReg s 15#4 (a + n.size)) a n false).1 } (a + n.size) n true
  refine ⟨fun i hi => ?_, f2.bankFiq.trans f1.bankFiq, f2.bankSvc.trans f1.bankSvc, f2.bankAbt.trans f1.bankAbt,
    f2.bankIrq.trans f1.bankIrq, f2.bankUnd.trans f1.bankUnd, f2.spsrFiq.trans f1.spsrFiq, f2.spsrSvc.trans f1.spsrSvc,
    f2.spsrAbt.trans f1.spsrAbt, f2.spsrIrq.trans f1.spsrIrq, f2.spsrUnd.trans f1.spsrUnd,
    f2.curInstr.trans f1.curInstr, f2.dataCycles.trans f1.dataCycles, f2.now.trans f1.now, f2.ctrl.trans f1.ctrl,
    f2.exceptionBase.trans f1.exceptionBase, f2.frameCount.trans f1.frameCount, f2.lagFrame.trans f1.lagFrame,
    f2.faulted.trans f1.faulted, f2.mem.trans f1.mem, f2.params.trans f1.params, f2.dataCosts.trans f1.dataCosts⟩
  rw [← reg_setReg_ne s (a + n.size) hi]
  exact reg_congr (f2.regs.trans f1.regs) i

/-- The live file and the status after the end of a jump. -/
theorem refill_regs (s : State) (a : Word) (n : Width) :
    (refill s a n).regs = (setReg s 15#4 (a + n.size)).regs ∧ (refill s a n).cpsr = s.cpsr := by
  have f1 := fetchCode_fetch (setReg s 15#4 (a + n.size)) a n false
  have f2 := fetchCode_fetch
    { (chargedFetch (setReg s 15#4 (a + n.size)) a n false).2 with
      slot0 := (chargedFetch (setReg s 15#4 (a + n.size)) a n false).1 } (a + n.size) n true
  exact ⟨f2.regs.trans f1.regs, f2.cpsr.trans f1.cpsr⟩

theorem refill_pc (s : State) (a : Word) (n : Width) : reg (refill s a n) 15#4 = a + n.size := by
  rw [reg_congr (refill_regs s a n).1, reg_setReg_same]

theorem refill_cpsr (s : State) (a : Word) (n : Width) : (refill s a n).cpsr = s.cpsr := (refill_regs s a n).2

/-- What a jump can do (R410). -/
theorem jumpTo_keep (s : State) (a : Word) : JumpKeep s (jumpTo s a) := by
  unfold jumpTo
  split
  · obtain ⟨⟩ := refill_keep { s with cpsr := setBit s.cpsr 5 true, thumbStale := none } (alignHalf a) .half
    constructor <;> assumption
  · obtain ⟨⟩ := refill_keep { s with cpsr := setBit s.cpsr 5 false, thumbStale := none } (alignWord a) .word
    constructor <;> assumption

/-- Where a jump leaves the program counter (R410, R411). -/
theorem jumpTo_pc (s : State) (a : Word) :
    reg (jumpTo s a) 15#4 = if a.getLsbD 0 then alignHalf a + 2#32 else alignWord a + 4#32 := by
  unfold jumpTo
  split <;> exact refill_pc _ _ _

/-- The state a jump selects, and nothing else of the status (R410). -/
theorem jumpTo_cpsr (s : State) (a : Word) : (jumpTo s a).cpsr = setBit s.cpsr 5 (a.getLsbD 0) := by
  unfold jumpTo
  split
  next h => rw [refill_cpsr, h]
  next h => rw [refill_cpsr, Bool.eq_false_iff.2 h]

/-! ### Data accesses -/

/-- A load that does not abort. -/
theorem load_ok {s : State} {a : Word} {n : Width} (h : busAbort s.params a n false = false) :
    load s a n = .ok (busRead (recordAccess s a n) a n.bytes).1 (busRead (recordAccess s a n) a n.bytes).2 := by
  simp only [load, h]; rfl

/-- A load of flat memory gives the bytes stored and changes nothing but the access costs. -/
theorem load_flat {s : State} {a : Word} {n : Width} {f : Word × Nat} (h : busAbort s.params a n false = false)
    (hf : flatRegion s.params a = some f) : load s a n = .ok (flatRead s.mem f a n.bytes) (recordAccess s a n) := by
  rw [load_ok h, busRead_flat n.bytes (by exact hf)]; rfl

/-- A store that does not abort. -/
theorem store_ok {s : State} {a : Word} {n : Width} (v : Word) (h : busAbort s.params a n true = false) :
    store s a n v = .ok () (busWrite (recordAccess s a n) a n.bytes v) := by
  simp only [store, h]; rfl

/-- A store to flat memory writes its bytes and changes nothing else but the access costs. -/
theorem store_flat {s : State} {a : Word} {n : Width} {f : Word × Nat} (v : Word)
    (h : busAbort s.params a n true = false) (hf : flatRegion s.params a = some f) :
    store s a n v = .ok () { recordAccess s a n with mem := flatWrite s.mem f a n.bytes v } := by
  rw [store_ok v h, busWrite_flat n.bytes v (by exact hf)]; rfl

/-- An access that aborts enters the data abort (R221). -/
theorem load_abort {s : State} {a : Word} {n : Width} (h : busAbort s.params a n false = true) :
    load s a n = .trap (enterException s .dataAbort (excReturn s .dataAbort)) := by
  simp only [load, h]; rfl

theorem store_abort {s : State} {a : Word} {n : Width} (v : Word) (h : busAbort s.params a n true = true) :
    store s a n v = .trap (enterException s .dataAbort (excReturn s .dataAbort)) := by
  simp only [store, h]; rfl

/-! ### Modes -/

/-- Every bank's mode number names that bank (R111). -/
theorem bankOf_bankMode (b : BankMode) : bankOf (bankMode b) = some b := by cases b <;> rfl

theorem validMode_bankMode (b : BankMode) : validMode (bankMode b) = true := by cases b <;> rfl

end Sys2Proof.Machine
end

