-- ==== Sys2Proof/Laws/Frames.lean ====
section
/-! SUPPORT. How frames are built: what each small update leaves unchanged, and completion from a body's answer. -/

namespace Sys2Proof.Machine

variable {regs : List Reg} {bits : List Nat} {keys : List Nat} {s t : State}

/-! ### Frames -/

/-- Nothing changed. -/
theorem Frame.refl (s : State) : Frame regs bits keys s s :=
  ⟨fun _ _ => rfl, fun _ _ => rfl, fun _ _ => rfl, ⟨rfl, rfl, rfl, rfl, rfl⟩, fun _ _ => rfl,
    ⟨rfl, rfl, rfl, rfl, rfl, rfl, rfl, rfl⟩, ⟨rfl, rfl⟩, ⟨rfl, rfl, rfl, rfl, rfl, rfl, rfl⟩, ⟨rfl, rfl⟩⟩

/-- A larger frame. -/
theorem Frame.mono {regs' : List Reg} {bits' keys' : List Nat} (h : Frame regs bits keys s t) (hr : regs ⊆ regs')
    (hb : bits ⊆ bits') (hk : keys ⊆ keys') : Frame regs' bits' keys' s t :=
  ⟨fun i hi => h.regs i fun m => hi (hr m), fun i hi => h.status i fun m => hi (hb m),
    fun i hi => h.bytes i fun m => hi (hk m), h.banks, h.spsr, h.system, h.cache, h.devices, h.slots⟩

/-- A listed register written. -/
theorem Frame.setReg {i : Reg} (h : Frame regs bits keys s t) (v : Word) (hi : i ∈ regs) :
    Frame regs bits keys s (setReg t i v) := by
  obtain ⟨hr, hb, hk, ⟨_, _, _, _, _⟩, hs, ⟨_, _, _, _, _, _, _, _⟩, ⟨_, _⟩, ⟨_, _, _, _, _, _, _⟩, hl⟩ := h
  refine ⟨fun j hj => ?_, hb, hk, ⟨?_, ?_, ?_, ?_, ?_⟩, fun b m => (?_ : _ = bankSpsr t b).trans (hs b m),
    ⟨?_, ?_, ?_, ?_, ?_, ?_, ?_, ?_⟩, ⟨?_, ?_⟩, ⟨?_, ?_, ?_, ?_, ?_, ?_, ?_⟩, hl⟩ <;> try assumption
  · rw [reg_setReg_ne t v (show j ≠ i from fun e => hj (by rw [e]; exact hi))]
    exact hr j hj
  · cases b <;> rfl

/-- The status replaced, its unlisted bits as they were. -/
theorem Frame.setFlags (h : Frame regs bits keys s t) {w : Word}
    (hw : ∀ i, i ∉ bits → w.getLsbD i = t.cpsr.getLsbD i) : Frame regs bits keys s (setFlags t w) := by
  obtain ⟨hr, hb, hk, ⟨_, _, _, _, _⟩, hs, ⟨_, _, _, _, _, _, _, _⟩, ⟨_, _⟩, ⟨_, _, _, _, _, _, _⟩, hl⟩ := h
  refine ⟨hr, fun j hj => (hw j hj).trans (hb j hj), hk, ⟨?_, ?_, ?_, ?_, ?_⟩,
    fun b m => (?_ : _ = bankSpsr t b).trans (hs b m), ⟨?_, ?_, ?_, ?_, ?_, ?_, ?_, ?_⟩, ⟨?_, ?_⟩,
    ⟨?_, ?_, ?_, ?_, ?_, ?_, ?_⟩, hl⟩ <;> try assumption
  cases b <;> rfl

/-- Memory replaced, its unlisted bytes as they were. -/
theorem Frame.setMem (h : Frame regs bits keys s t) {m : Memory} (hm : ∀ k, k ∉ keys → m.read k = t.mem.read k) :
    Frame regs bits keys s { t with mem := m } := by
  obtain ⟨hr, hb, hk, ⟨_, _, _, _, _⟩, hs, ⟨_, _, _, _, _, _, _, _⟩, ⟨_, _⟩, ⟨_, _, _, _, _, _, _⟩, hl⟩ := h
  refine ⟨hr, hb, fun j hj => (hm j hj).trans (hk j hj), ⟨?_, ?_, ?_, ?_, ?_⟩,
    fun b m => (?_ : _ = bankSpsr t b).trans (hs b m), ⟨?_, ?_, ?_, ?_, ?_, ?_, ?_, ?_⟩, ⟨?_, ?_⟩,
    ⟨?_, ?_, ?_, ?_, ?_, ?_, ?_⟩, hl⟩ <;> try assumption
  cases b <;> rfl

/-- The cost counters changed. -/
theorem Frame.costs (h : Frame regs bits keys s t) (c d : Nat) (l : List Nat) :
    Frame regs bits keys s { t with cycles := c, dataCycles := d, dataCosts := l } := by
  obtain ⟨hr, hb, hk, ⟨_, _, _, _, _⟩, hs, ⟨_, _, _, _, _, _, _, _⟩, ⟨_, _⟩, ⟨_, _, _, _, _, _, _⟩, hl⟩ := h
  refine ⟨hr, hb, hk, ⟨?_, ?_, ?_, ?_, ?_⟩, fun b m => (?_ : _ = bankSpsr t b).trans (hs b m),
    ⟨?_, ?_, ?_, ?_, ?_, ?_, ?_, ?_⟩, ⟨?_, ?_⟩, ⟨?_, ?_, ?_, ?_, ?_, ?_, ?_⟩, hl⟩ <;> try assumption
  cases b <;> rfl

theorem Frame.charged (h : Frame regs bits keys s t) (u : State) : Frame regs bits keys s (charged u t) :=
  h.costs _ _ _

theorem Frame.recordAccess (h : Frame regs bits keys s t) (a : Word) (n : Width) :
    Frame regs bits keys s (recordAccess t a n) := h.costs _ _ _

/-- The state a body begins in is the state before it, to any frame. -/
theorem Frame.begun (s : State) : Frame regs bits keys s (begun s) := (Frame.refl s).costs _ _ _

/-! ### Completion -/

/-- An instruction whose condition passes completes where its body does. -/
theorem completes_runIf {i : Instr} {c : BitVec 4} {body : State → Res Unit} {P : State → Prop}
    (hx : exec i s = runIf c s body) (hc : checkCondition s c = true)
    (hb : body (begun s) = .ok () t) (hp : P (charged s t)) : completes i s P :=
  ⟨charged s t, by rw [hx, runIf_pass body hc, run, hb, finish_ok], hp⟩

/-- A body that enters an exception completes too. -/
theorem completes_trap {i : Instr} {c : BitVec 4} {body : State → Res Unit} {P : State → Prop}
    (hx : exec i s = runIf c s body) (hc : checkCondition s c = true)
    (hb : body (begun s) = .trap t) (hp : P (charged s t)) : completes i s P :=
  ⟨charged s t, by rw [hx, runIf_pass body hc, run, hb, finish_trap], hp⟩

/-- An ungated instruction completes where its body does. -/
theorem completes_run {i : Instr} {body : State → Res Unit} {P : State → Prop} (hx : exec i s = run s body)
    (hb : body (begun s) = .ok () t) (hp : P (charged s t)) : completes i s P :=
  ⟨charged s t, by rw [hx, run, hb, finish_ok], hp⟩

/-- A body that faults stops the instruction. -/
theorem faults_runIf {i : Instr} {c : BitVec 4} {body : State → Res Unit} {f : Fault}
    (hx : exec i s = runIf c s body) (hc : checkCondition s c = true)
    (hb : body (begun s) = .fault f) : exec i s = .fault f := by
  rw [hx, runIf_pass body hc, run, hb, finish_fault]

@[simp] theorem reg_begun (s : State) (i : Reg) : reg (begun s) i = reg s i := rfl
@[simp] theorem reg_charged (u t : State) (i : Reg) : reg (charged u t) i = reg t i := rfl
@[simp] theorem charged_cpsr (u t : State) : (charged u t).cpsr = t.cpsr := rfl
@[simp] theorem charged_mem (u t : State) : (charged u t).mem = t.mem := rfl
@[simp] theorem charged_params (u t : State) : (charged u t).params = t.params := rfl

/-! ### Fetches -/

/-- A fetch where every address is directly mapped reaches no peripheral (R230). -/
theorem busFill_flat (n : Nat) {s : State} (a : Word) (h : allFlat s.params) : (busFill n s a).2 = s := by
  induction n generalizing a with
  | zero => rfl
  | succ n ih =>
    obtain ⟨f, hf⟩ := Option.isSome_iff_exists.1 (h a)
    rw [busFill, busRead_flat 1 hf]
    exact ih _

theorem lineFill_flat {s : State} (b : Word) (h : allFlat s.params) : (lineFill s b).2 = s := by
  obtain ⟨f, hf⟩ := Option.isSome_iff_exists.1 (h b)
  simp only [lineFill, hf]

theorem victimWay_devices (s : State) (i : Fin 64) : KeepsDevices s (victimWay s i).2 := by
  unfold victimWay
  split <;> constructor <;> rfl

/-- Where every address is directly mapped a fetch changes the fetch cost and the cache alone. -/
theorem fetchCode_devices {s : State} (a : Word) (n : Width) (q : Bool) (h : allFlat s.params) :
    KeepsDevices s (fetchCode s a n q).2 := by
  unfold fetchCode
  split
  · show KeepsDevices s { (cacheLookup s a n.bytes).2.2 with codeCycles := _ }
    unfold cacheLookup
    split
    · constructor <;> rfl
    · have g := victimWay_devices s (cacheIndex a)
      have e := lineFill_flat (s := (victimWay s (cacheIndex a)).2) (lineBase a)
        ((victimWay_fetch s (cacheIndex a)).params ▸ h)
      simp only [cacheMiss, e]
      exact ⟨g.1, g.2, g.3, g.4, g.5, g.6, g.7⟩
  · obtain ⟨f, hf⟩ := Option.isSome_iff_exists.1 (h a)
    rw [busRead_flat _ hf]
    constructor <;> rfl

/-- Where caching is inactive a fetch leaves the cache alone (R230). -/
theorem fetchCode_cache {s : State} (a : Word) (n : Width) (q : Bool) (h : cachingActive s = false) :
    KeepsCache s (fetchCode s a n q).2 := by
  have k := busRead_keeps s a n.bytes
  unfold fetchCode
  rw [if_neg (by rw [h]; decide)]
  exact ⟨k.ic, k.icRng⟩

end Sys2Proof.Machine
end

