-- ==== Sys2Proof/Laws/Modes.lean ====
section
/-! SUPPORT. What an exchange of banks leaves alone (spec/10_state.md R103, R104), once for every caller: the frame of
`swapBank` and `switchMode`, and that both depend on the registers and the banks only. -/

namespace Sys2Proof.Machine

theorem KeepsSystem.refl (s : State) : KeepsSystem s s := by constructor <;> rfl

theorem KeepsCache.refl (s : State) : KeepsCache s s := by constructor <;> rfl

theorem KeepsDevices.refl (s : State) : KeepsDevices s s := by constructor <;> rfl

theorem KeepsSystem.trans {s t u : State} (h : KeepsSystem s t) (g : KeepsSystem t u) : KeepsSystem s u :=
  ⟨g.1.trans h.1, g.2.trans h.2, g.3.trans h.3, g.4.trans h.4, g.5.trans h.5, g.6.trans h.6, g.7.trans h.7, g.8.trans h.8⟩

theorem KeepsCache.trans {s t u : State} (h : KeepsCache s t) (g : KeepsCache t u) : KeepsCache s u :=
  ⟨g.1.trans h.1, g.2.trans h.2⟩

theorem KeepsDevices.trans {s t u : State} (h : KeepsDevices s t) (g : KeepsDevices t u) : KeepsDevices s u :=
  ⟨g.1.trans h.1, g.2.trans h.2, g.3.trans h.3, g.4.trans h.4, g.5.trans h.5, g.6.trans h.6, g.7.trans h.7⟩

/-- What an exchange of banks leaves alone (R104): everything but the registers and the bank stores. -/
structure ExchangeKeeps (s t : State) : Prop where
  cpsr : t.cpsr = s.cpsr
  mem : t.mem = s.mem
  spsr : ∀ b, bankSpsr t b = bankSpsr s b
  system : KeepsSystem s t
  cache : KeepsCache s t
  devices : KeepsDevices s t
  slots : t.slot0 = s.slot0 ∧ t.slot1 = s.slot1
  stale : t.thumbStale = s.thumbStale

theorem ExchangeKeeps.refl (s : State) : ExchangeKeeps s s :=
  ⟨rfl, rfl, fun _ => rfl, .refl s, .refl s, .refl s, ⟨rfl, rfl⟩, rfl⟩

theorem ExchangeKeeps.trans {s t u : State} (h : ExchangeKeeps s t) (g : ExchangeKeeps t u) : ExchangeKeeps s u :=
  ⟨g.cpsr.trans h.cpsr, g.mem.trans h.mem, fun b => (g.spsr b).trans (h.spsr b), h.system.trans g.system,
    h.cache.trans g.cache, h.devices.trans g.devices, ⟨g.slots.1.trans h.slots.1, g.slots.2.trans h.slots.2⟩,
    g.stale.trans h.stale⟩

theorem swapBank_keeps (s : State) (b : Option BankMode) : ExchangeKeeps s (swapBank s b) := by
  rcases b with _ | b
  · exact .refl s
  · cases b <;>
      exact ⟨rfl, rfl, fun c => by cases c <;> rfl, by constructor <;> rfl, by constructor <;> rfl,
        by constructor <;> rfl, ⟨rfl, rfl⟩, rfl⟩

theorem switchMode_keeps (s : State) (a b : BitVec 5) : ExchangeKeeps s (switchMode s a b) := by
  unfold switchMode
  split
  · exact .refl s
  · exact (swapBank_keeps s _).trans (swapBank_keeps _ _)

/-- Two states with the same registers and banks. -/
structure SameBanks (s t : State) : Prop where
  regs : t.regs = s.regs
  banks : KeepsBanks s t

theorem SameBanks.swapBank {s t : State} (h : SameBanks s t) (b : Option BankMode) :
    SameBanks (swapBank s b) (swapBank t b) := by
  obtain ⟨hr, hf, hs, ha, hi, hu⟩ := h
  rcases b with _ | b
  · exact ⟨hr, hf, hs, ha, hi, hu⟩
  · cases b <;> constructor <;> first
      | (constructor <;> simp only [Machine.swapBank, liveTwo, liveSeven, hr, hf, hs, ha, hi, hu])
      | simp only [Machine.swapBank, liveTwo, liveSeven, hr, hf, hs, ha, hi, hu]

/-- An exchange of banks depends on the registers and the banks only. -/
theorem SameBanks.switchMode {s t : State} (h : SameBanks s t) (a b : BitVec 5) :
    SameBanks (switchMode s a b) (switchMode t a b) := by
  unfold Machine.switchMode
  split
  · exact h
  · exact (h.swapBank _).swapBank _

/-! ### The banks' registers (R103, R107) -/

/-- Which registers a bank holds is the bank's alone. -/
theorem bankReg_isSome (s t : State) (b : BankMode) (i : Reg) : (bankReg s b i).isSome = (bankReg t b i).isSome := by
  cases b <;> simp only [bankReg] <;> split_ifs <;>
    first | rfl | (rw [Vector.getElem?_eq_getElem (by omega), Vector.getElem?_eq_getElem (by omega)]; rfl)

/-- A bank register reads as written, and the bank's others as before. -/
theorem bankReg_setBankReg (s : State) {c : BankMode} {i : Reg} (v : Word) (h : (bankReg s c i).isSome = true) (j : Reg) :
    bankReg (setBankReg s c i v) c j = if j = i then some v else bankReg s c j := by
  have key : ∀ {n : Nat} (x : Vector Word n) (lo : Nat),
      (if lo ≤ i.toNat ∧ i.toNat ≤ 14 then x[i.toNat - lo]? else none).isSome = true →
      (if lo ≤ j.toNat ∧ j.toNat ≤ 14 then (x.setIfInBounds (i.toNat - lo) v)[j.toNat - lo]? else none) =
        if j = i then some v else (if lo ≤ j.toNat ∧ j.toNat ≤ 14 then x[j.toNat - lo]? else none) := by
    intro n x lo h
    split at h
    next hi =>
      by_cases hji : j = i
      · subst hji
        rw [if_pos hi, if_pos rfl]
        simp only [isSome_getElem?] at h
        simp [h]
      · rw [if_neg hji]
        split
        · rw [Vector.getElem?_setIfInBounds, if_neg]
          exact fun e => hji (BitVec.eq_of_toNat_eq (by omega))
        · rfl
    next => cases h
  cases c <;> exact key _ _ h

/-- A write to one bank leaves every other as it was. -/
theorem bankReg_setBankReg_ne (s : State) {b c : BankMode} (i : Reg) (v : Word) (j : Reg) (h : b ≠ c) :
    bankReg (setBankReg s c i v) b j = bankReg s b j := by
  cases c <;> cases b <;> first | exact absurd rfl h | rfl

end Sys2Proof.Machine
end

