-- ==== Sys2Proof/Laws/PerInstr.lean ====
section
/-! SUPPORT. The statements made once per instruction: `EncodedLength`, how many bytes its encoding takes (R400). -/

namespace Sys2Proof.Laws

/-- The encoding is 2 bytes in Thumb state and 4 in ARM state (R400). -/
def EncodedLength.Statement (i : Instr) : Prop := (encode i).length = if i.isThumb then 2 else 4

namespace EncodedLength

theorem andImmShift (cond sf rn rd imm st rm) : Statement (.andImmShift cond sf rn rd imm st rm) := encode_length _

theorem andRegShift (cond sf rn rd rs st rm) : Statement (.andRegShift cond sf rn rd rs st rm) := encode_length _

theorem andImm (cond sf rn rd rot imm) : Statement (.andImm cond sf rn rd rot imm) := encode_length _

theorem eorImmShift (cond sf rn rd imm st rm) : Statement (.eorImmShift cond sf rn rd imm st rm) := encode_length _

theorem eorRegShift (cond sf rn rd rs st rm) : Statement (.eorRegShift cond sf rn rd rs st rm) := encode_length _

theorem eorImm (cond sf rn rd rot imm) : Statement (.eorImm cond sf rn rd rot imm) := encode_length _

theorem subImmShift (cond sf rn rd imm st rm) : Statement (.subImmShift cond sf rn rd imm st rm) := encode_length _

theorem subRegShift (cond sf rn rd rs st rm) : Statement (.subRegShift cond sf rn rd rs st rm) := encode_length _

theorem subImm (cond sf rn rd rot imm) : Statement (.subImm cond sf rn rd rot imm) := encode_length _

theorem rsbImmShift (cond sf rn rd imm st rm) : Statement (.rsbImmShift cond sf rn rd imm st rm) := encode_length _

theorem rsbRegShift (cond sf rn rd rs st rm) : Statement (.rsbRegShift cond sf rn rd rs st rm) := encode_length _

theorem rsbImm (cond sf rn rd rot imm) : Statement (.rsbImm cond sf rn rd rot imm) := encode_length _

theorem addImmShift (cond sf rn rd imm st rm) : Statement (.addImmShift cond sf rn rd imm st rm) := encode_length _

theorem addRegShift (cond sf rn rd rs st rm) : Statement (.addRegShift cond sf rn rd rs st rm) := encode_length _

theorem addImm (cond sf rn rd rot imm) : Statement (.addImm cond sf rn rd rot imm) := encode_length _

theorem adcImmShift (cond sf rn rd imm st rm) : Statement (.adcImmShift cond sf rn rd imm st rm) := encode_length _

theorem adcRegShift (cond sf rn rd rs st rm) : Statement (.adcRegShift cond sf rn rd rs st rm) := encode_length _

theorem adcImm (cond sf rn rd rot imm) : Statement (.adcImm cond sf rn rd rot imm) := encode_length _

theorem sbcImmShift (cond sf rn rd imm st rm) : Statement (.sbcImmShift cond sf rn rd imm st rm) := encode_length _

theorem sbcRegShift (cond sf rn rd rs st rm) : Statement (.sbcRegShift cond sf rn rd rs st rm) := encode_length _

theorem sbcImm (cond sf rn rd rot imm) : Statement (.sbcImm cond sf rn rd rot imm) := encode_length _

theorem rscImmShift (cond sf rn rd imm st rm) : Statement (.rscImmShift cond sf rn rd imm st rm) := encode_length _

theorem rscRegShift (cond sf rn rd rs st rm) : Statement (.rscRegShift cond sf rn rd rs st rm) := encode_length _

theorem rscImm (cond sf rn rd rot imm) : Statement (.rscImm cond sf rn rd rot imm) := encode_length _

theorem tstImmShift (cond rn sbz imm st rm) : Statement (.tstImmShift cond rn sbz imm st rm) := encode_length _

theorem tstRegShift (cond rn sbz rs st rm) : Statement (.tstRegShift cond rn sbz rs st rm) := encode_length _

theorem tstImm (cond rn sbz rot imm) : Statement (.tstImm cond rn sbz rot imm) := encode_length _

theorem teqImmShift (cond rn sbz imm st rm) : Statement (.teqImmShift cond rn sbz imm st rm) := encode_length _

theorem teqRegShift (cond rn sbz rs st rm) : Statement (.teqRegShift cond rn sbz rs st rm) := encode_length _

theorem teqImm (cond rn sbz rot imm) : Statement (.teqImm cond rn sbz rot imm) := encode_length _

theorem cmpImmShift (cond rn sbz imm st rm) : Statement (.cmpImmShift cond rn sbz imm st rm) := encode_length _

theorem cmpRegShift (cond rn sbz rs st rm) : Statement (.cmpRegShift cond rn sbz rs st rm) := encode_length _

theorem cmpImm (cond rn sbz rot imm) : Statement (.cmpImm cond rn sbz rot imm) := encode_length _

theorem cmnImmShift (cond rn sbz imm st rm) : Statement (.cmnImmShift cond rn sbz imm st rm) := encode_length _

theorem cmnRegShift (cond rn sbz rs st rm) : Statement (.cmnRegShift cond rn sbz rs st rm) := encode_length _

theorem cmnImm (cond rn sbz rot imm) : Statement (.cmnImm cond rn sbz rot imm) := encode_length _

theorem orrImmShift (cond sf rn rd imm st rm) : Statement (.orrImmShift cond sf rn rd imm st rm) := encode_length _

theorem orrRegShift (cond sf rn rd rs st rm) : Statement (.orrRegShift cond sf rn rd rs st rm) := encode_length _

theorem orrImm (cond sf rn rd rot imm) : Statement (.orrImm cond sf rn rd rot imm) := encode_length _

theorem movImmShift (cond sf sbz rd imm st rm) : Statement (.movImmShift cond sf sbz rd imm st rm) := encode_length _

theorem movRegShift (cond sf sbz rd rs st rm) : Statement (.movRegShift cond sf sbz rd rs st rm) := encode_length _

theorem movImm (cond sf sbz rd rot imm) : Statement (.movImm cond sf sbz rd rot imm) := encode_length _

theorem bicImmShift (cond sf rn rd imm st rm) : Statement (.bicImmShift cond sf rn rd imm st rm) := encode_length _

theorem bicRegShift (cond sf rn rd rs st rm) : Statement (.bicRegShift cond sf rn rd rs st rm) := encode_length _

theorem bicImm (cond sf rn rd rot imm) : Statement (.bicImm cond sf rn rd rot imm) := encode_length _

theorem mvnImmShift (cond sf sbz rd imm st rm) : Statement (.mvnImmShift cond sf sbz rd imm st rm) := encode_length _

theorem mvnRegShift (cond sf sbz rd rs st rm) : Statement (.mvnRegShift cond sf sbz rd rs st rm) := encode_length _

theorem mvnImm (cond sf sbz rd rot imm) : Statement (.mvnImm cond sf sbz rd rot imm) := encode_length _

theorem mrs (cond r sbo rd sbz1 sbz2) : Statement (.mrs cond r sbo rd sbz1 sbz2) := encode_length _

theorem msrReg (cond r fm sbo sbz rm) : Statement (.msrReg cond r fm sbo sbz rm) := encode_length _

theorem msrImm (cond r fm sbo rot imm) : Statement (.msrImm cond r fm sbo rot imm) := encode_length _

theorem clz (cond sbo1 rd sbo2 rm) : Statement (.clz cond sbo1 rd sbo2 rm) := encode_length _

theorem qadd (cond rn rd sbz rm) : Statement (.qadd cond rn rd sbz rm) := encode_length _

theorem qsub (cond rn rd sbz rm) : Statement (.qsub cond rn rd sbz rm) := encode_length _

theorem qdadd (cond rn rd sbz rm) : Statement (.qdadd cond rn rd sbz rm) := encode_length _

theorem qdsub (cond rn rd sbz rm) : Statement (.qdsub cond rn rd sbz rm) := encode_length _

theorem mul (cond sf rd sbz rs rm) : Statement (.mul cond sf rd sbz rs rm) := encode_length _

theorem mla (cond sf rd rn rs rm) : Statement (.mla cond sf rd rn rs rm) := encode_length _

theorem umull (cond sf rdHi rdLo rs rm) : Statement (.umull cond sf rdHi rdLo rs rm) := encode_length _

theorem umlal (cond sf rdHi rdLo rs rm) : Statement (.umlal cond sf rdHi rdLo rs rm) := encode_length _

theorem smull (cond sf rdHi rdLo rs rm) : Statement (.smull cond sf rdHi rdLo rs rm) := encode_length _

theorem smlal (cond sf rdHi rdLo rs rm) : Statement (.smlal cond sf rdHi rdLo rs rm) := encode_length _

theorem smlaXY (cond rd rn rs y x rm) : Statement (.smlaXY cond rd rn rs y x rm) := encode_length _

theorem smlawY (cond rd rn rs y rm) : Statement (.smlawY cond rd rn rs y rm) := encode_length _

theorem smulwY (cond rd sbz rs y rm) : Statement (.smulwY cond rd sbz rs y rm) := encode_length _

theorem smlalXY (cond rdHi rdLo rs y x rm) : Statement (.smlalXY cond rdHi rdLo rs y x rm) := encode_length _

theorem smulXY (cond rd sbz rs y x rm) : Statement (.smulXY cond rd sbz rs y x rm) := encode_length _

theorem swp (cond rn rd sbz rm) : Statement (.swp cond rn rd sbz rm) := encode_length _

theorem swpb (cond rn rd sbz rm) : Statement (.swpb cond rn rd sbz rm) := encode_length _

theorem ldrImmPre (cond u w rn rd imm) : Statement (.ldrImmPre cond u w rn rd imm) := encode_length _

theorem ldrImmPost (cond u rn rd imm) : Statement (.ldrImmPost cond u rn rd imm) := encode_length _

theorem ldrRegPre (cond u w rn rd imm st rm) : Statement (.ldrRegPre cond u w rn rd imm st rm) := encode_length _

theorem ldrRegPost (cond u rn rd imm st rm) : Statement (.ldrRegPost cond u rn rd imm st rm) := encode_length _

theorem ldrbImmPre (cond u w rn rd imm) : Statement (.ldrbImmPre cond u w rn rd imm) := encode_length _

theorem ldrbImmPost (cond u rn rd imm) : Statement (.ldrbImmPost cond u rn rd imm) := encode_length _

theorem ldrbRegPre (cond u w rn rd imm st rm) : Statement (.ldrbRegPre cond u w rn rd imm st rm) := encode_length _

theorem ldrbRegPost (cond u rn rd imm st rm) : Statement (.ldrbRegPost cond u rn rd imm st rm) := encode_length _

theorem strImmPre (cond u w rn rd imm) : Statement (.strImmPre cond u w rn rd imm) := encode_length _

theorem strImmPost (cond u rn rd imm) : Statement (.strImmPost cond u rn rd imm) := encode_length _

theorem strRegPre (cond u w rn rd imm st rm) : Statement (.strRegPre cond u w rn rd imm st rm) := encode_length _

theorem strRegPost (cond u rn rd imm st rm) : Statement (.strRegPost cond u rn rd imm st rm) := encode_length _

theorem strbImmPre (cond u w rn rd imm) : Statement (.strbImmPre cond u w rn rd imm) := encode_length _

theorem strbImmPost (cond u rn rd imm) : Statement (.strbImmPost cond u rn rd imm) := encode_length _

theorem strbRegPre (cond u w rn rd imm st rm) : Statement (.strbRegPre cond u w rn rd imm st rm) := encode_length _

theorem strbRegPost (cond u rn rd imm st rm) : Statement (.strbRegPost cond u rn rd imm st rm) := encode_length _

theorem ldrtImm (cond u rn rd imm) : Statement (.ldrtImm cond u rn rd imm) := encode_length _

theorem ldrtReg (cond u rn rd imm st rm) : Statement (.ldrtReg cond u rn rd imm st rm) := encode_length _

theorem ldrbtImm (cond u rn rd imm) : Statement (.ldrbtImm cond u rn rd imm) := encode_length _

theorem ldrbtReg (cond u rn rd imm st rm) : Statement (.ldrbtReg cond u rn rd imm st rm) := encode_length _

theorem strtImm (cond u rn rd imm) : Statement (.strtImm cond u rn rd imm) := encode_length _

theorem strtReg (cond u rn rd imm st rm) : Statement (.strtReg cond u rn rd imm st rm) := encode_length _

theorem strbtImm (cond u rn rd imm) : Statement (.strbtImm cond u rn rd imm) := encode_length _

theorem strbtReg (cond u rn rd imm st rm) : Statement (.strbtReg cond u rn rd imm st rm) := encode_length _

theorem strhImm (cond p u w rn rd immHi immLo) : Statement (.strhImm cond p u w rn rd immHi immLo) := encode_length _

theorem strhReg (cond p u w rn rd sbz rm) : Statement (.strhReg cond p u w rn rd sbz rm) := encode_length _

theorem ldrdImm (cond p u w rn rd immHi immLo) : Statement (.ldrdImm cond p u w rn rd immHi immLo) := encode_length _

theorem ldrdReg (cond p u w rn rd sbz rm) : Statement (.ldrdReg cond p u w rn rd sbz rm) := encode_length _

theorem strdImm (cond p u w rn rd immHi immLo) : Statement (.strdImm cond p u w rn rd immHi immLo) := encode_length _

theorem strdReg (cond p u w rn rd sbz rm) : Statement (.strdReg cond p u w rn rd sbz rm) := encode_length _

theorem ldrhImm (cond p u w rn rd immHi immLo) : Statement (.ldrhImm cond p u w rn rd immHi immLo) := encode_length _

theorem ldrhReg (cond p u w rn rd sbz rm) : Statement (.ldrhReg cond p u w rn rd sbz rm) := encode_length _

theorem ldrsbImm (cond p u w rn rd immHi immLo) :
    Statement (.ldrsbImm cond p u w rn rd immHi immLo) := encode_length _

theorem ldrsbReg (cond p u w rn rd sbz rm) : Statement (.ldrsbReg cond p u w rn rd sbz rm) := encode_length _

theorem ldrshImm (cond p u w rn rd immHi immLo) :
    Statement (.ldrshImm cond p u w rn rd immHi immLo) := encode_length _

theorem ldrshReg (cond p u w rn rd sbz rm) : Statement (.ldrshReg cond p u w rn rd sbz rm) := encode_length _

theorem ldm1 (cond p u w rn list) : Statement (.ldm1 cond p u w rn list) := encode_length _

theorem ldm2 (cond p u w rn list) : Statement (.ldm2 cond p u w rn list) := encode_length _

theorem ldm3 (cond p u w rn list) : Statement (.ldm3 cond p u w rn list) := encode_length _

theorem stm1 (cond p u w rn list) : Statement (.stm1 cond p u w rn list) := encode_length _

theorem stm2 (cond p u w rn list) : Statement (.stm2 cond p u w rn list) := encode_length _

theorem b (cond imm) : Statement (.b cond imm) := encode_length _

theorem bl (cond imm) : Statement (.bl cond imm) := encode_length _

theorem blxImm (h imm) : Statement (.blxImm h imm) := encode_length _

theorem bx (cond sbo rm) : Statement (.bx cond sbo rm) := encode_length _

theorem bxj (cond sbo rm) : Statement (.bxj cond sbo rm) := encode_length _

theorem blxReg (cond sbo rm) : Statement (.blxReg cond sbo rm) := encode_length _

theorem swi (cond imm) : Statement (.swi cond imm) := encode_length _

theorem bkpt (cond immHi immLo) : Statement (.bkpt cond immHi immLo) := encode_length _

theorem ldcPre (cond u n w rn crd cp imm) : Statement (.ldcPre cond u n w rn crd cp imm) := encode_length _

theorem ldcPost (cond u n rn crd cp imm) : Statement (.ldcPost cond u n rn crd cp imm) := encode_length _

theorem ldcUnindexed (cond n rn crd cp opt) : Statement (.ldcUnindexed cond n rn crd cp opt) := encode_length _

theorem stcPre (cond u n w rn crd cp imm) : Statement (.stcPre cond u n w rn crd cp imm) := encode_length _

theorem stcPost (cond u n rn crd cp imm) : Statement (.stcPost cond u n rn crd cp imm) := encode_length _

theorem stcUnindexed (cond n rn crd cp opt) : Statement (.stcUnindexed cond n rn crd cp opt) := encode_length _

theorem mcrr (cond rn rd cp opc crm) : Statement (.mcrr cond rn rd cp opc crm) := encode_length _

theorem mrrc (cond rn rd cp opc crm) : Statement (.mrrc cond rn rd cp opc crm) := encode_length _

theorem cdp (cond opc1 crn crd cp opc2 crm) : Statement (.cdp cond opc1 crn crd cp opc2 crm) := encode_length _

theorem mcr (cond opc1 crn rd cp opc2 crm) : Statement (.mcr cond opc1 crn rd cp opc2 crm) := encode_length _

theorem mrc (cond opc1 crn rd cp opc2 crm) : Statement (.mrc cond opc1 crn rd cp opc2 crm) := encode_length _

theorem pldImm (u rn sbo imm) : Statement (.pldImm u rn sbo imm) := encode_length _

theorem pldReg (u rn sbo imm st rm) : Statement (.pldReg u rn sbo imm st rm) := encode_length _

theorem cdp2 (opc1 crn crd cp opc2 crm) : Statement (.cdp2 opc1 crn crd cp opc2 crm) := encode_length _

theorem mcr2 (opc1 crn rd cp opc2 crm) : Statement (.mcr2 opc1 crn rd cp opc2 crm) := encode_length _

theorem mrc2 (opc1 crn rd cp opc2 crm) : Statement (.mrc2 opc1 crn rd cp opc2 crm) := encode_length _

theorem ldc2 (p u n w rn crd cp imm) : Statement (.ldc2 p u n w rn crd cp imm) := encode_length _

theorem stc2 (p u n w rn crd cp imm) : Statement (.stc2 p u n w rn crd cp imm) := encode_length _

theorem nvSkipped (body) : Statement (.nvSkipped body) := encode_length _

theorem undefMulSpace01 (cond f1 f2) : Statement (.undefMulSpace01 cond f1 f2) := encode_length _

theorem undefSwapSpaceA (cond f1 f2 f3) : Statement (.undefSwapSpaceA cond f1 f2 f3) := encode_length _

theorem undefSwapSpaceB (cond f1 f2 f3) : Statement (.undefSwapSpaceB cond f1 f2 f3) := encode_length _

theorem undefSwapSpaceC (cond f1 f2) : Statement (.undefSwapSpaceC cond f1 f2) := encode_length _

theorem undefMisc0001 (cond f1 f2 f3) : Statement (.undefMisc0001 cond f1 f2 f3) := encode_length _

theorem undefMisc0010A (cond f1 f2 f3) : Statement (.undefMisc0010A cond f1 f2 f3) := encode_length _

theorem undefMisc0010B (cond f1 f2) : Statement (.undefMisc0010B cond f1 f2) := encode_length _

theorem undefMisc0011A (cond f1 f2 f3) : Statement (.undefMisc0011A cond f1 f2 f3) := encode_length _

theorem undefMisc0011B (cond f1 f2) : Statement (.undefMisc0011B cond f1 f2) := encode_length _

theorem undefMisc0100 (cond f1 f2 f3) : Statement (.undefMisc0100 cond f1 f2 f3) := encode_length _

theorem undefMisc0110 (cond f1 f2 f3) : Statement (.undefMisc0110 cond f1 f2 f3) := encode_length _

theorem undefMisc0111A (cond f1 f2 f3) : Statement (.undefMisc0111A cond f1 f2 f3) := encode_length _

theorem undefMisc0111B (cond f1 f2) : Statement (.undefMisc0111B cond f1 f2) := encode_length _

theorem undefMsrImmSpace (cond f1 f2) : Statement (.undefMsrImmSpace cond f1 f2) := encode_length _

theorem undefLsRegBit4 (cond f1 f2) : Statement (.undefLsRegBit4 cond f1 f2) := encode_length _

theorem undefCpLsSpace (cond body) : Statement (.undefCpLsSpace cond body) := encode_length _

theorem tLslImm (imm rm rd) : Statement (.tLslImm imm rm rd) := encode_length _

theorem tLsrImm (imm rm rd) : Statement (.tLsrImm imm rm rd) := encode_length _

theorem tAsrImm (imm rm rd) : Statement (.tAsrImm imm rm rd) := encode_length _

theorem tAddReg (rm rn rd) : Statement (.tAddReg rm rn rd) := encode_length _

theorem tSubReg (rm rn rd) : Statement (.tSubReg rm rn rd) := encode_length _

theorem tAddImm3 (imm rn rd) : Statement (.tAddImm3 imm rn rd) := encode_length _

theorem tSubImm3 (imm rn rd) : Statement (.tSubImm3 imm rn rd) := encode_length _

theorem tMovImm (rd imm) : Statement (.tMovImm rd imm) := encode_length _

theorem tCmpImm (rd imm) : Statement (.tCmpImm rd imm) := encode_length _

theorem tAddImm8 (rd imm) : Statement (.tAddImm8 rd imm) := encode_length _

theorem tSubImm8 (rd imm) : Statement (.tSubImm8 rd imm) := encode_length _

theorem tAnd (rm rd) : Statement (.tAnd rm rd) := encode_length _

theorem tEor (rm rd) : Statement (.tEor rm rd) := encode_length _

theorem tLslReg (rm rd) : Statement (.tLslReg rm rd) := encode_length _

theorem tLsrReg (rm rd) : Statement (.tLsrReg rm rd) := encode_length _

theorem tAsrReg (rm rd) : Statement (.tAsrReg rm rd) := encode_length _

theorem tAdc (rm rd) : Statement (.tAdc rm rd) := encode_length _

theorem tSbc (rm rd) : Statement (.tSbc rm rd) := encode_length _

theorem tRor (rm rd) : Statement (.tRor rm rd) := encode_length _

theorem tTst (rm rd) : Statement (.tTst rm rd) := encode_length _

theorem tNeg (rm rd) : Statement (.tNeg rm rd) := encode_length _

theorem tCmpReg (rm rd) : Statement (.tCmpReg rm rd) := encode_length _

theorem tCmn (rm rd) : Statement (.tCmn rm rd) := encode_length _

theorem tOrr (rm rd) : Statement (.tOrr rm rd) := encode_length _

theorem tMul (rm rd) : Statement (.tMul rm rd) := encode_length _

theorem tBic (rm rd) : Statement (.tBic rm rd) := encode_length _

theorem tMvn (rm rd) : Statement (.tMvn rm rd) := encode_length _

theorem tAddHi (h1 h2 rm rd) : Statement (.tAddHi h1 h2 rm rd) := encode_length _

theorem tCmpHi (h1 h2 rm rd) : Statement (.tCmpHi h1 h2 rm rd) := encode_length _

theorem tMovHi (h1 h2 rm rd) : Statement (.tMovHi h1 h2 rm rd) := encode_length _

theorem tBx (h2 rm sbz) : Statement (.tBx h2 rm sbz) := encode_length _

theorem tBlxReg (h2 rm sbz) : Statement (.tBlxReg h2 rm sbz) := encode_length _

theorem tLdrPc (rd imm) : Statement (.tLdrPc rd imm) := encode_length _

theorem tStrReg (rm rn rd) : Statement (.tStrReg rm rn rd) := encode_length _

theorem tStrhReg (rm rn rd) : Statement (.tStrhReg rm rn rd) := encode_length _

theorem tStrbReg (rm rn rd) : Statement (.tStrbReg rm rn rd) := encode_length _

theorem tLdrsbReg (rm rn rd) : Statement (.tLdrsbReg rm rn rd) := encode_length _

theorem tLdrReg (rm rn rd) : Statement (.tLdrReg rm rn rd) := encode_length _

theorem tLdrhReg (rm rn rd) : Statement (.tLdrhReg rm rn rd) := encode_length _

theorem tLdrbReg (rm rn rd) : Statement (.tLdrbReg rm rn rd) := encode_length _

theorem tLdrshReg (rm rn rd) : Statement (.tLdrshReg rm rn rd) := encode_length _

theorem tStrImm (imm rn rd) : Statement (.tStrImm imm rn rd) := encode_length _

theorem tLdrImm (imm rn rd) : Statement (.tLdrImm imm rn rd) := encode_length _

theorem tStrbImm (imm rn rd) : Statement (.tStrbImm imm rn rd) := encode_length _

theorem tLdrbImm (imm rn rd) : Statement (.tLdrbImm imm rn rd) := encode_length _

theorem tStrhImm (imm rn rd) : Statement (.tStrhImm imm rn rd) := encode_length _

theorem tLdrhImm (imm rn rd) : Statement (.tLdrhImm imm rn rd) := encode_length _

theorem tStrSp (rd imm) : Statement (.tStrSp rd imm) := encode_length _

theorem tLdrSp (rd imm) : Statement (.tLdrSp rd imm) := encode_length _

theorem tAddPc (rd imm) : Statement (.tAddPc rd imm) := encode_length _

theorem tAddSp (rd imm) : Statement (.tAddSp rd imm) := encode_length _

theorem tAddSpImm (imm) : Statement (.tAddSpImm imm) := encode_length _

theorem tSubSpImm (imm) : Statement (.tSubSpImm imm) := encode_length _

theorem tPush (r list) : Statement (.tPush r list) := encode_length _

theorem tPop (r list) : Statement (.tPop r list) := encode_length _

theorem tBkpt (imm) : Statement (.tBkpt imm) := encode_length _

theorem tStmia (rn list) : Statement (.tStmia rn list) := encode_length _

theorem tLdmia (rn list) : Statement (.tLdmia rn list) := encode_length _

theorem tBCond (cond imm) : Statement (.tBCond cond imm) := encode_length _

theorem tSwi (imm) : Statement (.tSwi imm) := encode_length _

theorem tB (imm) : Statement (.tB imm) := encode_length _

theorem tBlxSuffix (imm) : Statement (.tBlxSuffix imm) := encode_length _

theorem tBlPrefix (imm) : Statement (.tBlPrefix imm) := encode_length _

theorem tBlSuffix (imm) : Statement (.tBlSuffix imm) := encode_length _

theorem tUndefB1 (body) : Statement (.tUndefB1 body) := encode_length _

theorem tUndefB2B3 (body) : Statement (.tUndefB2B3 body) := encode_length _

theorem tUndefB6B7 (body) : Statement (.tUndefB6B7 body) := encode_length _

theorem tUndefB8Bb (body) : Statement (.tUndefB8Bb body) := encode_length _

theorem tUndefBf (body) : Statement (.tUndefBf body) := encode_length _

theorem tUndefCondE (body) : Statement (.tUndefCondE body) := encode_length _

theorem tUndefBlxOdd (body) : Statement (.tUndefBlxOdd body) := encode_length _

end EncodedLength

end Sys2Proof.Laws
end

