-- ==== Sys2Proof/Laws/Scheduler.lean ====
section
/-! SUPPORT. The event slots: `EVENT_IDS` is ascending, every operation keeps the ids of the slots, and a slot is found by
its id. The halted frame driver: what an iteration does where nothing can wake the engine. -/

namespace Sys2Proof.Machine

/-! ### The ids (D38) -/

theorem mem_insertId {i j : Nat} {l : List Nat} : j ∈ Config.insertId i l ↔ j = i ∨ j ∈ l := by
  induction l with
  | nil => simp [Config.insertId]
  | cons k r ih =>
    simp only [Config.insertId]
    split
    · simp
    · split
      next h => subst h; simp
      next => simp only [List.mem_cons, ih]; tauto

/-- An insertion keeps a strictly rising list so. -/
theorem insertId_ascending {i : Nat} {l : List Nat} (h : l.Pairwise (· < ·)) : (Config.insertId i l).Pairwise (· < ·) := by
  induction l with
  | nil => simp [Config.insertId]
  | cons k r ih =>
    rw [List.pairwise_cons] at h
    simp only [Config.insertId]
    split
    next hk => exact List.pairwise_cons.2 ⟨by simpa using ⟨hk, fun j hj => hk.trans (h.1 j hj)⟩, List.pairwise_cons.2 h⟩
    next hk =>
      split
      · exact List.pairwise_cons.2 h
      next hne =>
        refine List.pairwise_cons.2 ⟨fun j hj => ?_, ih h.2⟩
        rcases mem_insertId.1 hj with rfl | hj
        · omega
        · exact h.1 j hj

/-- `EVENT_IDS` is in strictly ascending order. -/
theorem eventIds_ascending : Config.eventIds.Pairwise (· < ·) := by
  refine List.Pairwise.take ?_
  generalize Config.eventIdsRaw = l
  induction l with
  | nil => exact List.Pairwise.nil
  | cons i r ih => exact insertId_ascending ih

/-- The ids of the slots, in order. -/
def slotIds (s : State) : List Nat := s.sched.slots.map fun e => e.id

theorem updateSlot_ids (s : State) (id : Nat) {f : EventSlot → EventSlot} (h : ∀ e, (f e).id = e.id) :
    slotIds (updateSlot s id f) = slotIds s := by
  simp only [slotIds, updateSlot, List.map_map]
  refine List.map_congr_left fun e _ => ?_
  simp only [Function.comp_apply]
  split
  · exact h e
  · rfl

theorem scheduleEvent_ids (s : State) (id : Nat) (k : EventKind) (d cb : Nat) (p : Word) :
    slotIds (scheduleEvent s id k d cb p) = slotIds s := by
  unfold scheduleEvent
  split
  · rfl
  · split
    · rfl
    · exact updateSlot_ids s id fun _ => rfl

theorem cancelEvent_ids (s : State) (id : Nat) : slotIds (cancelEvent s id) = slotIds s := updateSlot_ids s id fun _ => rfl

/-- The interrupt controller's operations leave the scheduler alone. -/
theorem updateIrq_sched (s : State) : (updateIrq s).sched = s.sched := by
  unfold updateIrq
  split
  · rfl
  · split <;> rfl

theorem setIrq_sched (s : State) (l : Nat) : (setIrq s l).sched = s.sched := by
  unfold setIrq
  split
  · split
    · rfl
    · exact updateIrq_sched _
  · rfl

theorem acknowledgeIrq_sched (s : State) (t : Nat) : (acknowledgeIrq s t).sched = s.sched := by
  unfold acknowledgeIrq
  split
  · rfl
  · exact updateIrq_sched _

theorem writeCtl_sched (s : State) (l : Nat) (b : Byte) : (writeCtl s l b).sched = s.sched := by
  unfold writeCtl
  split
  · exact updateIrq_sched _
  · rfl

theorem runCall_ids (s : State) (c : Call) : slotIds (runCall s c) = slotIds s := by
  cases c with
  | irq l => exact congrArg (fun x : Sched => x.slots.map fun e => e.id) (setIrq_sched s l)
  | ack t => exact congrArg (fun x : Sched => x.slots.map fun e => e.id) (acknowledgeIrq_sched s t)
  | ctl l b => exact congrArg (fun x : Sched => x.slots.map fun e => e.id) (writeCtl_sched s l b)
  | sched id k d cb p => exact scheduleEvent_ids s id k d cb p
  | cancel id => exact cancelEvent_ids s id
  | halt1 => rfl

/-- No collaborator's call adds, drops or moves a slot. -/
theorem runCalls_ids (s : State) (l : List Call) : slotIds (runCalls s l) = slotIds s := by
  induction l generalizing s with
  | nil => rfl
  | cons c r ih => exact (ih _).trans (runCall_ids s c)

theorem takeAnswer_ids (s : State) (a : Word) (n : Nat) : slotIds (takeAnswer s a n).2 = slotIds s := by
  unfold takeAnswer
  split <;> rfl

theorem busRead_ids (s : State) (a : Word) (n : Nat) : slotIds (busRead s a n).2 = slotIds s := by
  unfold busRead
  split
  · rfl
  · split
    · rfl
    · split
      · exact (runCalls_ids _ _).trans (takeAnswer_ids s a n)
      · rfl

theorem intcWriteAt_ids {s t : State} {a v : Word} (h : intcWriteAt s a v = some t) : slotIds t = slotIds s := by
  obtain ⟨r, _, hr⟩ := List.exists_of_findSome?_eq_some h
  split at hr
  · cases hp : r.port <;> simp only [hp, intcWrite, Option.some.injEq, reduceCtorEq] at hr <;> subst hr
    · exact congrArg (fun x : Sched => x.slots.map fun e => e.id) (setIrq_sched _ _)
    · exact congrArg (fun x : Sched => x.slots.map fun e => e.id) (acknowledgeIrq_sched _ _)
    · exact congrArg (fun x : Sched => x.slots.map fun e => e.id) (writeCtl_sched _ _ _)
  · cases hr

theorem busWrite_ids (s : State) (a : Word) (n : Nat) (v : Word) : slotIds (busWrite s a n v) = slotIds s := by
  unfold busWrite
  split
  · rfl
  · split
    next h => exact intcWriteAt_ids h
    next =>
      split
      · exact (runCalls_ids _ _).trans (takeAnswer_ids s a n)
      · rfl

/-- A slot of strictly ascending slots is found by its id. -/
theorem eventSlot_of_mem {s : State} (h : (slotIds s).Pairwise (· < ·)) {e : EventSlot} (he : e ∈ s.sched.slots) :
    eventSlot s e.id = some e := by
  unfold eventSlot
  unfold slotIds at h
  generalize s.sched.slots = l at h he
  induction l with
  | nil => cases he
  | cons d r ih =>
    rw [List.map_cons, List.pairwise_cons] at h
    rcases List.mem_cons.1 he with rfl | he
    · simp
    · have hne : (d.id == e.id) = false := by
        have := h.1 e.id (List.mem_map.2 ⟨e, he, rfl⟩)
        simp; omega
      rw [List.find?_cons, hne]
      exact ih h.2 he

/-! ### The halted frame driver (R431, R1251) -/

/-- A halted engine with no interrupt signal lets time pass and does nothing else (R431). -/
theorem execute_waits {s : State} (hf : s.faulted = none) (hh : s.halt = .indefinite) (hi : s.irqLine = false)
    (target : Nat) : execute s target = waitUntil s target := by
  simp [execute, burstStart, hf, hh, hi]

/-- A pass in which no event is pending moves the time marker and does nothing else. -/
theorem runSystem_quiet {s : State} (h : ∀ e ∈ s.sched.slots, e.pending = false) (time : Nat) :
    runSystem s time = { s with sched := { s.sched with sysTime := time, scheduledInPass := none } } := by
  have hs : (s.sched.slots.filter fun e => e.pending) = [] := List.filter_eq_nil_iff.2 fun e he => by simp [h e he]
  have hf : ∀ (l : List Nat) (t : State), l.foldl (fireEvent [] time) t = t := by
    intro l
    induction l with
    | nil => intro t; rfl
    | cons i r ih =>
      intro t
      rw [List.foldl_cons, ih]
      unfold fireEvent
      split <;> simp
  simp only [runSystem, hs, List.map_nil, hf]

/-- Timers with no script left call nothing. -/
theorem advanceTimers_nil {s : State} (h : s.inputs.timers = []) (delta : Nat) :
    advanceTimers s delta = { s with activity := s.activity ++ [.timers delta []] } := by
  have hi : { s.inputs with timers := [] } = s.inputs := by rw [← h]
  simp only [advanceTimers, h, List.headD_nil, List.filter_nil, List.tail_nil, hi]
  rfl

/-- What an iteration of the frame driver does where the engine is halted, no event is pending and the timers call
nothing: time passes. -/
theorem frameBody_waits {s : State} (hf : s.faulted = none) (hh : s.halt = .indefinite) (hi : s.irqLine = false)
    (hq : ∀ e ∈ s.sched.slots, e.pending = false) (ht : s.inputs.timers = []) :
    ∃ n m a, frameBody s = { s with
      now := n, sched := { s.sched with sysTime := m, scheduledInPass := none }, activity := a } := by
  have hb : frameBody s = runSystem (advanceTimers (waitUntil s (nextWakeTime s))
      ((waitUntil s (nextWakeTime s)).now - s.now)) (waitUntil s (nextWakeTime s)).now := by
    simp only [frameBody, execute_waits hf hh hi]
    rw [show (waitUntil s (nextWakeTime s)).faulted = none from hf]
  rw [hb, advanceTimers_nil (by exact ht), runSystem_quiet (by exact hq)]
  exact ⟨_, _, _, rfl⟩

/-- A halted engine with no event pending, no interrupt signal and no timer input left hangs (R1251). -/
theorem hung_of_no_timers {s : State} (hf : s.faulted = none) (hh : s.halt = .indefinite) (hi : s.irqLine = false)
    (hq : ∀ e ∈ s.sched.slots, e.pending = false) (ht : s.inputs.timers = []) : Hung s := by
  refine ⟨hf, hh, hq, fun n => ?_⟩
  induction n generalizing s with
  | zero => exact hi
  | succ n ih =>
    obtain ⟨x, y, a, h⟩ := frameBody_waits hf hh hi hq ht
    rw [afterIterations, h]
    exact ih hf hh hi hq ht

end Sys2Proof.Machine
end

