-- ==== Sys2Proof/Laws/Transfers.lean ====
section
/-! SUPPORT. What the single and multiple transfers do in flat memory, said once. -/

namespace Sys2Proof.Machine

/-- Two steps of four bytes (R680). -/
theorem add_four_step (a : Word) (j : Nat) : a + 4#32 + BitVec.ofNat 32 (4 * j) = a + BitVec.ofNat 32 (4 * (j + 1)) := by
  apply BitVec.eq_of_toNat_eq
  simp only [BitVec.toNat_add, BitVec.toNat_ofNat]
  omega

/-- A frame followed by a frame (both with the same lists). -/
theorem Frame.trans {regs : List Reg} {bits keys : List Nat} {s t u : State} (h : Frame regs bits keys s t)
    (g : Frame regs bits keys t u) : Frame regs bits keys s u := by
  obtain ⟨h1, h2, h3, ⟨_, _, _, _, _⟩, h5, ⟨_, _, _, _, _, _, _, _⟩, ⟨_, _⟩, ⟨_, _, _, _, _, _, _⟩, h9⟩ := h
  obtain ⟨g1, g2, g3, ⟨_, _, _, _, _⟩, g5, ⟨_, _, _, _, _, _, _, _⟩, ⟨_, _⟩, ⟨_, _, _, _, _, _, _⟩, g9⟩ := g
  exact ⟨fun i m => (g1 i m).trans (h1 i m), fun i m => (g2 i m).trans (h2 i m), fun i m => (g3 i m).trans (h3 i m),
    by constructor <;> simp only [*], fun b m => (g5 b m).trans (h5 b m), by constructor <;> simp only [*],
    by constructor <;> simp only [*], by constructor <;> simp only [*], g9.1.trans h9.1, g9.2.trans h9.2⟩

/-- Distinct register numbers below 16 name distinct registers. -/
theorem ofNat4_inj {i j : Nat} (hi : i < 16) (hj : j < 16) (h : BitVec.ofNat 4 i = BitVec.ofNat 4 j) : i = j := by
  have := congrArg BitVec.toNat h
  simp only [BitVec.toNat_ofNat] at this
  omega

/-- Registers loaded from flat memory (R680): each takes the word at its place, the next address is answered, and
nothing else changes but the access costs. `v j` is the j-th word. -/
theorem loadEach_flat {l : List Nat} {a : Word} {s : State} (v : Nat → Word) (hn : l.Nodup) (hl : ∀ i ∈ l, i < 16)
    (hv : ∀ j, j < l.length → ∃ f, flatAccess s f (a + BitVec.ofNat 32 (4 * j)) .word false ∧
      v j = flatRead s.mem f (a + BitVec.ofNat 32 (4 * j)) 4) :
    ∃ t, loadEach setReg l a s = .ok (a + BitVec.ofNat 32 (4 * l.length)) t ∧
      Frame (l.map fun i => BitVec.ofNat 4 i) [] [] s t ∧
      ∀ j i, l[j]? = some i → reg t (BitVec.ofNat 4 i) = v j := by
  induction l generalizing a s v with
  | nil => exact ⟨s, by rw [loadEach]; simp, Frame.refl s, fun j i h => by simp at h⟩
  | cons i r ih =>
    rw [List.nodup_cons] at hn
    obtain ⟨f, ⟨hf, hb⟩, hv0⟩ := hv 0 (by simp)
    rw [Nat.mul_zero, BitVec.add_zero] at hf hb hv0
    obtain ⟨t, ht, hfr, hr⟩ := ih (a := a + 4#32) (s := setReg (recordAccess s a .word) (BitVec.ofNat 4 i) (v 0))
      (fun j => v (j + 1)) hn.2 (fun j hj => hl j (List.mem_cons_of_mem _ hj)) (fun j hj => by
        obtain ⟨g, hg, hw⟩ := hv (j + 1) (by simpa using hj)
        rw [← add_four_step] at hg hw
        exact ⟨g, hg, hw⟩)
    refine ⟨t, ?_, ?_, ?_⟩
    · rw [loadEach, load_flat hb hf, Res.bind_ok]
      rw [show flatRead s.mem f a Width.word.bytes = v 0 from hv0.symm, ht, add_four_step]
      rfl
    · exact (((Frame.refl s).recordAccess a .word).setReg (v 0) (by simp)).trans
        (hfr.mono (List.subset_cons_self _ _) (fun _ h => h) fun _ h => h)
    · intro j k hk
      cases j with
      | zero =>
        simp only [List.getElem?_cons_zero, Option.some.injEq] at hk
        subst hk
        rw [hfr.regs _ fun m => ?_, reg_setReg_same]
        obtain ⟨k, hk, e⟩ := List.mem_map.1 m
        exact hn.1 (ofNat4_inj (hl k (by simp [hk])) (hl i (by simp)) e ▸ hk)
      | succ j => exact hr j k (by simpa using hk)

/-- Registers stored to flat memory (R680): byte `k` of the j-th word is at its place, and no other byte and no register
changes. `get` does not depend on memory or on the access costs. -/
theorem storeEach_flat {get : State → Reg → Word} {l : List Nat} {f : Word × Nat} {a : Word} {s : State}
    (hg : ∀ s m c d, get { s with mem := m, dataCycles := c, dataCosts := d } = get s) (hw : s.mem.wf = true)
    (hf : ∀ j, j < l.length → flatAccess s f (a + BitVec.ofNat 32 (4 * j)) .word true)
    (hn : ((List.range l.length).flatMap fun j => accessKeys f (a + BitVec.ofNat 32 (4 * j)) 4).Nodup) :
    ∃ t, storeEach get l a s = .ok (a + BitVec.ofNat 32 (4 * l.length)) t ∧ t.mem.wf = true ∧
      Frame [] [] ((List.range l.length).flatMap fun j => accessKeys f (a + BitVec.ofNat 32 (4 * j)) 4) s t ∧
      ∀ j i, l[j]? = some i → ∀ k, k < 4 →
        t.mem.read (storageKey f (a + BitVec.ofNat 32 (4 * j) + BitVec.ofNat 32 k)) =
          byteOf (get s (BitVec.ofNat 4 i)) k := by
  induction l generalizing a s with
  | nil => exact ⟨s, by rw [storeEach]; simp, hw, Frame.refl s, fun j i h => by simp at h⟩
  | cons i r ih =>
    rw [List.length_cons, List.range_succ_eq_map, List.flatMap_cons, List.flatMap_map] at hn ⊢
    simp only [Nat.mul_zero, BitVec.add_zero, Nat.succ_eq_add_one, ← add_four_step] at hn ⊢
    rw [List.nodup_append] at hn
    obtain ⟨hf0, hb0⟩ := hf 0 (by simp)
    rw [Nat.mul_zero, BitVec.add_zero] at hf0 hb0
    have hs := store_flat (get s (BitVec.ofNat 4 i)) hb0 hf0
    set u : State := { recordAccess s a .word with mem := flatWrite s.mem f a 4 (get s (BitVec.ofNat 4 i)) } with hu
    have hgu : get u = get s := hg s _ _ _
    obtain ⟨t, ht, hwt, hfr, hr⟩ := ih (a := a + 4#32) (s := u) (wf_flatWrite hw f a 4 _) (fun j hj => by
        have := hf (j + 1) (by simpa using hj)
        rw [← add_four_step] at this
        exact this) hn.2.1
    refine ⟨t, ?_, hwt, ?_, ?_⟩
    · rw [storeEach, hs, Res.bind_ok]
      exact ht
    · have h0 : Frame [] [] (accessKeys f a 4) s u :=
        ((Frame.refl s).recordAccess a .word).setMem fun k hk => read_flatWrite_of_notMem _ _ _ _ _ hk
      exact (h0.mono (fun _ h => h) (fun _ h => h) (List.subset_append_left _ _)).trans
        (hfr.mono (fun _ h => h) (fun _ h => h) (List.subset_append_right _ _))
    · intro j k hk n hn4
      cases j with
      | zero =>
        simp only [List.getElem?_cons_zero, Option.some.injEq] at hk
        subst hk
        rw [Nat.mul_zero, BitVec.add_zero]
        have hm : storageKey f (a + BitVec.ofNat 32 n) ∈ accessKeys f a 4 :=
          List.mem_map.2 ⟨n, List.mem_range.2 hn4, rfl⟩
        rw [hfr.bytes _ fun m => hn.2.2 _ hm _ m rfl]
        exact read_flatWrite hw _ hn.1 hn4
      | succ j =>
        rw [← add_four_step, ← hgu]
        exact hr j k (by simpa using hk) n hn4

/-! ### Transfers that abort (R221, R650) -/

theorem loadEach_append (put : State → Reg → Word → State) (l r : List Nat) (a : Word) (s : State) :
    loadEach put (l ++ r) a s = (loadEach put l a s).bind fun b t => loadEach put r b t := by
  induction l generalizing a s with
  | nil => rfl
  | cons i l ih =>
    rw [List.cons_append, loadEach, loadEach, Res.bind_assoc]
    congr 1
    funext v t
    exact ih _ _

theorem storeEach_append (get : State → Reg → Word) (l r : List Nat) (a : Word) (s : State) :
    storeEach get (l ++ r) a s = (storeEach get l a s).bind fun b t => storeEach get r b t := by
  induction l generalizing a s with
  | nil => rfl
  | cons i l ih =>
    rw [List.cons_append, storeEach, storeEach, Res.bind_assoc]
    congr 1
    funext v t
    exact ih _ _

/-- The loads of a list stop at the one that aborts, in the state the loads before it left. -/
theorem loadEach_abort {put : State → Reg → Word → State} {l : List Nat} {a b : Word} {s t : State} {j : Nat}
    (hj : j < l.length) (h : loadEach put (l.take j) a s = .ok b t) (hab : busAbort t.params b .word false = true) :
    loadEach put l a s = .trap (enterException t .dataAbort (excReturn t .dataAbort)) := by
  rw [← List.take_append_drop j l, List.drop_eq_getElem_cons hj, loadEach_append, h, Res.bind_ok, loadEach,
    load_abort hab, Res.bind_trap]

/-- The stores of a list stop at the one that aborts, in the state the stores before it left. -/
theorem storeEach_abort {get : State → Reg → Word} {l : List Nat} {a b : Word} {s t : State} {j : Nat}
    (hj : j < l.length) (h : storeEach get (l.take j) a s = .ok b t) (hab : busAbort t.params b .word true = true) :
    storeEach get l a s = .trap (enterException t .dataAbort (excReturn t .dataAbort)) := by
  rw [← List.take_append_drop j l, List.drop_eq_getElem_cons hj, storeEach_append, h, Res.bind_ok, storeEach,
    store_abort _ hab, Res.bind_trap]

end Sys2Proof.Machine
end

