-- ==== Sys2Proof/Tests/Slice0.lean ====
section
/-! SUPPORT. Tests: the ill-formed terms each check refuses; one word per constructor, written from the encoding table of
spec/opcode_table.json; single steps whose expected results are rows of spec/95_test_vectors.md; and for every statement
with hypotheses a state and operands that meet them. -/

namespace Sys2Proof.Tests

open Sys2Proof Sys2Proof.Machine Sys2Proof.Claims

set_option maxRecDepth 10000

/-- Registers given values, by number. -/
def setRegs (s : State) (l : List (Nat × Word)) : State := l.foldl (fun t c => setReg t (BitVec.ofNat 4 c.1) c.2) s

/-- The reset state with flags and registers, executing an ARM instruction at 0x1000. -/
def arm (nzcv : Nat) (l : List (Nat × Word)) : State :=
  setRegs { State.reset with cpsr := BitVec.ofNat 32 (nzcv * 2 ^ 28 + 0xD3) } ((15, 0x1008#32) :: l)

/-- The reset state with flags and registers, executing a Thumb instruction at 0x2000. -/
def thumb (nzcv : Nat) (l : List (Nat × Word)) : State :=
  setRegs { State.reset with cpsr := BitVec.ofNat 32 (nzcv * 2 ^ 28 + 0xF3) } ((15, 0x2004#32) :: l)

/-- Words placed in memory. -/
def place (s : State) (l : List (Word × Word)) : State := l.foldl (fun t c => busWrite t c.1 4 c.2) s

/-- The instruction answers a next state with the property. -/
def leads (i : Instr) (s : State) (p : State → Bool) : Bool :=
  match exec i s with
  | .next t => p t
  | .fault _ => false
  | .refused _ => false

/-- The instruction stops with the fault. -/
def faultsWith (i : Instr) (s : State) (f : Fault) : Bool :=
  match exec i s with
  | .next _ => false
  | .fault g => g == f
  | .refused _ => false

/-- The registers have the values. -/
def has (l : List (Nat × Word)) (t : State) : Bool := l.all fun c => reg t (BitVec.ofNat 4 c.1) == c.2

/-- The flag nibble. -/
def nzcv (t : State) : Nat := t.cpsr.toNat / 2 ^ 28

/-- The address of the next instruction. -/
def nextPc (t : State) : Word := reg t 15#4 - (instrWidth t).size

/-- The word of memory at an address. -/
def word (t : State) (a : Word) : Word := (busRead t a 4).1

/-- The byte of memory at an address. -/
def byte (t : State) (a : Word) : Byte := (peekByte t a).getD 0#8

/-! ### Well-formedness: each check refuses an ill-formed term -/

theorem test_wf_refuses_cond_1111 : (Instr.b 0xF#4 0#24).wf = false ∧ (Instr.b 0xE#4 0#24).wf = true := by decide

theorem test_wf_refuses_thumb_cond_1110 :
    (Instr.tBCond 0xE#4 0#8).wf = false ∧ (Instr.tBCond 0xF#4 0#8).wf = false ∧ (Instr.tBCond 0xD#4 0#8).wf = true := by
  decide

theorem test_wf_refuses_other_unconditional_rows :
    (Instr.nvSkipped 0xA000000#28).wf = false ∧ (Instr.nvSkipped 0x5D0F000#28).wf = false ∧
      (Instr.nvSkipped 0x7D0F001#28).wf = false ∧ (Instr.nvSkipped 0xC000000#28).wf = false ∧
      (Instr.nvSkipped 0xE000000#28).wf = false ∧ (Instr.nvSkipped 0xF000000#28).wf = true := by
  decide

/-! ### Decoding: a word of each constructor, bit by bit from its row of the encoding table -/

theorem test_decode_arm_1 :
    decodeArm 0xE0131D42#32 = .andImmShift 14#4 true 3#4 1#4 26#5 2#2 2#4 ∧
    decodeArm 0xE0131452#32 = .andRegShift 14#4 true 3#4 1#4 4#4 2#2 2#4 ∧
    decodeArm 0xE213195A#32 = .andImm 14#4 true 3#4 1#4 9#4 0x5A#8 ∧
    decodeArm 0xE0331D42#32 = .eorImmShift 14#4 true 3#4 1#4 26#5 2#2 2#4 ∧
    decodeArm 0xE0331452#32 = .eorRegShift 14#4 true 3#4 1#4 4#4 2#2 2#4 ∧
    decodeArm 0xE233195A#32 = .eorImm 14#4 true 3#4 1#4 9#4 0x5A#8 ∧
    decodeArm 0xE0531D42#32 = .subImmShift 14#4 true 3#4 1#4 26#5 2#2 2#4 ∧
    decodeArm 0xE0531452#32 = .subRegShift 14#4 true 3#4 1#4 4#4 2#2 2#4 := by decide

theorem test_decode_arm_2 :
    decodeArm 0xE253195A#32 = .subImm 14#4 true 3#4 1#4 9#4 0x5A#8 ∧
    decodeArm 0xE0731D42#32 = .rsbImmShift 14#4 true 3#4 1#4 26#5 2#2 2#4 ∧
    decodeArm 0xE0731452#32 = .rsbRegShift 14#4 true 3#4 1#4 4#4 2#2 2#4 ∧
    decodeArm 0xE273195A#32 = .rsbImm 14#4 true 3#4 1#4 9#4 0x5A#8 ∧
    decodeArm 0xE0931D42#32 = .addImmShift 14#4 true 3#4 1#4 26#5 2#2 2#4 ∧
    decodeArm 0xE0931452#32 = .addRegShift 14#4 true 3#4 1#4 4#4 2#2 2#4 ∧
    decodeArm 0xE293195A#32 = .addImm 14#4 true 3#4 1#4 9#4 0x5A#8 ∧
    decodeArm 0xE0B31D42#32 = .adcImmShift 14#4 true 3#4 1#4 26#5 2#2 2#4 := by decide

theorem test_decode_arm_3 :
    decodeArm 0xE0B31452#32 = .adcRegShift 14#4 true 3#4 1#4 4#4 2#2 2#4 ∧
    decodeArm 0xE2B3195A#32 = .adcImm 14#4 true 3#4 1#4 9#4 0x5A#8 ∧
    decodeArm 0xE0D31D42#32 = .sbcImmShift 14#4 true 3#4 1#4 26#5 2#2 2#4 ∧
    decodeArm 0xE0D31452#32 = .sbcRegShift 14#4 true 3#4 1#4 4#4 2#2 2#4 ∧
    decodeArm 0xE2D3195A#32 = .sbcImm 14#4 true 3#4 1#4 9#4 0x5A#8 ∧
    decodeArm 0xE0F31D42#32 = .rscImmShift 14#4 true 3#4 1#4 26#5 2#2 2#4 ∧
    decodeArm 0xE0F31452#32 = .rscRegShift 14#4 true 3#4 1#4 4#4 2#2 2#4 ∧
    decodeArm 0xE2F3195A#32 = .rscImm 14#4 true 3#4 1#4 9#4 0x5A#8 := by decide

theorem test_decode_arm_4 :
    decodeArm 0xE1130D42#32 = .tstImmShift 14#4 3#4 0#4 26#5 2#2 2#4 ∧
    decodeArm 0xE1130452#32 = .tstRegShift 14#4 3#4 0#4 4#4 2#2 2#4 ∧
    decodeArm 0xE313095A#32 = .tstImm 14#4 3#4 0#4 9#4 0x5A#8 ∧
    decodeArm 0xE1330D42#32 = .teqImmShift 14#4 3#4 0#4 26#5 2#2 2#4 ∧
    decodeArm 0xE1330452#32 = .teqRegShift 14#4 3#4 0#4 4#4 2#2 2#4 ∧
    decodeArm 0xE333095A#32 = .teqImm 14#4 3#4 0#4 9#4 0x5A#8 ∧
    decodeArm 0xE1530D42#32 = .cmpImmShift 14#4 3#4 0#4 26#5 2#2 2#4 ∧
    decodeArm 0xE1530452#32 = .cmpRegShift 14#4 3#4 0#4 4#4 2#2 2#4 := by decide

theorem test_decode_arm_5 :
    decodeArm 0xE353095A#32 = .cmpImm 14#4 3#4 0#4 9#4 0x5A#8 ∧
    decodeArm 0xE1730D42#32 = .cmnImmShift 14#4 3#4 0#4 26#5 2#2 2#4 ∧
    decodeArm 0xE1730452#32 = .cmnRegShift 14#4 3#4 0#4 4#4 2#2 2#4 ∧
    decodeArm 0xE373095A#32 = .cmnImm 14#4 3#4 0#4 9#4 0x5A#8 ∧
    decodeArm 0xE1931D42#32 = .orrImmShift 14#4 true 3#4 1#4 26#5 2#2 2#4 ∧
    decodeArm 0xE1931452#32 = .orrRegShift 14#4 true 3#4 1#4 4#4 2#2 2#4 ∧
    decodeArm 0xE393195A#32 = .orrImm 14#4 true 3#4 1#4 9#4 0x5A#8 ∧
    decodeArm 0xE1B01D42#32 = .movImmShift 14#4 true 0#4 1#4 26#5 2#2 2#4 := by decide

theorem test_decode_arm_6 :
    decodeArm 0xE1B01452#32 = .movRegShift 14#4 true 0#4 1#4 4#4 2#2 2#4 ∧
    decodeArm 0xE3B0195A#32 = .movImm 14#4 true 0#4 1#4 9#4 0x5A#8 ∧
    decodeArm 0xE1D31D42#32 = .bicImmShift 14#4 true 3#4 1#4 26#5 2#2 2#4 ∧
    decodeArm 0xE1D31452#32 = .bicRegShift 14#4 true 3#4 1#4 4#4 2#2 2#4 ∧
    decodeArm 0xE3D3195A#32 = .bicImm 14#4 true 3#4 1#4 9#4 0x5A#8 ∧
    decodeArm 0xE1F01D42#32 = .mvnImmShift 14#4 true 0#4 1#4 26#5 2#2 2#4 ∧
    decodeArm 0xE1F01452#32 = .mvnRegShift 14#4 true 0#4 1#4 4#4 2#2 2#4 ∧
    decodeArm 0xE3F0195A#32 = .mvnImm 14#4 true 0#4 1#4 9#4 0x5A#8 := by decide

theorem test_decode_arm_7 :
    decodeArm 0xE14F1000#32 = .mrs 14#4 true 15#4 1#4 0#4 0#4 ∧
    decodeArm 0xE169F002#32 = .msrReg 14#4 true 9#4 15#4 0#4 2#4 ∧
    decodeArm 0xE369F95A#32 = .msrImm 14#4 true 9#4 15#4 9#4 0x5A#8 ∧
    decodeArm 0xE16F1F12#32 = .clz 14#4 15#4 1#4 15#4 2#4 ∧
    decodeArm 0xE1031052#32 = .qadd 14#4 3#4 1#4 0#4 2#4 ∧
    decodeArm 0xE1231052#32 = .qsub 14#4 3#4 1#4 0#4 2#4 ∧
    decodeArm 0xE1431052#32 = .qdadd 14#4 3#4 1#4 0#4 2#4 ∧
    decodeArm 0xE1631052#32 = .qdsub 14#4 3#4 1#4 0#4 2#4 := by decide

theorem test_decode_arm_8 :
    decodeArm 0xE0110492#32 = .mul 14#4 true 1#4 0#4 4#4 2#4 ∧
    decodeArm 0xE0313492#32 = .mla 14#4 true 1#4 3#4 4#4 2#4 ∧
    decodeArm 0xE0956492#32 = .umull 14#4 true 5#4 6#4 4#4 2#4 ∧
    decodeArm 0xE0B56492#32 = .umlal 14#4 true 5#4 6#4 4#4 2#4 ∧
    decodeArm 0xE0D56492#32 = .smull 14#4 true 5#4 6#4 4#4 2#4 ∧
    decodeArm 0xE0F56492#32 = .smlal 14#4 true 5#4 6#4 4#4 2#4 ∧
    decodeArm 0xE10134A2#32 = .smlaXY 14#4 1#4 3#4 4#4 false true 2#4 ∧
    decodeArm 0xE1213482#32 = .smlawY 14#4 1#4 3#4 4#4 false 2#4 := by decide

theorem test_decode_arm_9 :
    decodeArm 0xE12104A2#32 = .smulwY 14#4 1#4 0#4 4#4 false 2#4 ∧
    decodeArm 0xE14564A2#32 = .smlalXY 14#4 5#4 6#4 4#4 false true 2#4 ∧
    decodeArm 0xE16104A2#32 = .smulXY 14#4 1#4 0#4 4#4 false true 2#4 ∧
    decodeArm 0xE1031092#32 = .swp 14#4 3#4 1#4 0#4 2#4 ∧
    decodeArm 0xE1431092#32 = .swpb 14#4 3#4 1#4 0#4 2#4 ∧
    decodeArm 0xE533105A#32 = .ldrImmPre 14#4 false true 3#4 1#4 0x5A#12 ∧
    decodeArm 0xE413105A#32 = .ldrImmPost 14#4 false 3#4 1#4 0x5A#12 ∧
    decodeArm 0xE7331D42#32 = .ldrRegPre 14#4 false true 3#4 1#4 26#5 2#2 2#4 := by decide

theorem test_decode_arm_10 :
    decodeArm 0xE6131D42#32 = .ldrRegPost 14#4 false 3#4 1#4 26#5 2#2 2#4 ∧
    decodeArm 0xE573105A#32 = .ldrbImmPre 14#4 false true 3#4 1#4 0x5A#12 ∧
    decodeArm 0xE453105A#32 = .ldrbImmPost 14#4 false 3#4 1#4 0x5A#12 ∧
    decodeArm 0xE7731D42#32 = .ldrbRegPre 14#4 false true 3#4 1#4 26#5 2#2 2#4 ∧
    decodeArm 0xE6531D42#32 = .ldrbRegPost 14#4 false 3#4 1#4 26#5 2#2 2#4 ∧
    decodeArm 0xE523105A#32 = .strImmPre 14#4 false true 3#4 1#4 0x5A#12 ∧
    decodeArm 0xE403105A#32 = .strImmPost 14#4 false 3#4 1#4 0x5A#12 ∧
    decodeArm 0xE7231D42#32 = .strRegPre 14#4 false true 3#4 1#4 26#5 2#2 2#4 := by decide

theorem test_decode_arm_11 :
    decodeArm 0xE6031D42#32 = .strRegPost 14#4 false 3#4 1#4 26#5 2#2 2#4 ∧
    decodeArm 0xE563105A#32 = .strbImmPre 14#4 false true 3#4 1#4 0x5A#12 ∧
    decodeArm 0xE443105A#32 = .strbImmPost 14#4 false 3#4 1#4 0x5A#12 ∧
    decodeArm 0xE7631D42#32 = .strbRegPre 14#4 false true 3#4 1#4 26#5 2#2 2#4 ∧
    decodeArm 0xE6431D42#32 = .strbRegPost 14#4 false 3#4 1#4 26#5 2#2 2#4 ∧
    decodeArm 0xE433105A#32 = .ldrtImm 14#4 false 3#4 1#4 0x5A#12 ∧
    decodeArm 0xE6331D42#32 = .ldrtReg 14#4 false 3#4 1#4 26#5 2#2 2#4 ∧
    decodeArm 0xE473105A#32 = .ldrbtImm 14#4 false 3#4 1#4 0x5A#12 := by decide

theorem test_decode_arm_12 :
    decodeArm 0xE6731D42#32 = .ldrbtReg 14#4 false 3#4 1#4 26#5 2#2 2#4 ∧
    decodeArm 0xE423105A#32 = .strtImm 14#4 false 3#4 1#4 0x5A#12 ∧
    decodeArm 0xE6231D42#32 = .strtReg 14#4 false 3#4 1#4 26#5 2#2 2#4 ∧
    decodeArm 0xE463105A#32 = .strbtImm 14#4 false 3#4 1#4 0x5A#12 ∧
    decodeArm 0xE6631D42#32 = .strbtReg 14#4 false 3#4 1#4 26#5 2#2 2#4 ∧
    decodeArm 0xE16316BB#32 = .strhImm 14#4 true false true 3#4 1#4 6#4 11#4 ∧
    decodeArm 0xE12310B2#32 = .strhReg 14#4 true false true 3#4 1#4 0#4 2#4 ∧
    decodeArm 0xE16316DB#32 = .ldrdImm 14#4 true false true 3#4 1#4 6#4 11#4 := by decide

theorem test_decode_arm_13 :
    decodeArm 0xE12310D2#32 = .ldrdReg 14#4 true false true 3#4 1#4 0#4 2#4 ∧
    decodeArm 0xE16316FB#32 = .strdImm 14#4 true false true 3#4 1#4 6#4 11#4 ∧
    decodeArm 0xE12310F2#32 = .strdReg 14#4 true false true 3#4 1#4 0#4 2#4 ∧
    decodeArm 0xE17316BB#32 = .ldrhImm 14#4 true false true 3#4 1#4 6#4 11#4 ∧
    decodeArm 0xE13310B2#32 = .ldrhReg 14#4 true false true 3#4 1#4 0#4 2#4 ∧
    decodeArm 0xE17316DB#32 = .ldrsbImm 14#4 true false true 3#4 1#4 6#4 11#4 ∧
    decodeArm 0xE13310D2#32 = .ldrsbReg 14#4 true false true 3#4 1#4 0#4 2#4 ∧
    decodeArm 0xE17316FB#32 = .ldrshImm 14#4 true false true 3#4 1#4 6#4 11#4 := by decide

theorem test_decode_arm_14 :
    decodeArm 0xE13310F2#32 = .ldrshReg 14#4 true false true 3#4 1#4 0#4 2#4 ∧
    decodeArm 0xE9338123#32 = .ldm1 14#4 true false true 3#4 0x8123#16 ∧
    decodeArm 0xE9730123#32 = .ldm2 14#4 true false true 3#4 0x123#15 ∧
    decodeArm 0xE9738123#32 = .ldm3 14#4 true false true 3#4 0x123#15 ∧
    decodeArm 0xE9238123#32 = .stm1 14#4 true false true 3#4 0x8123#16 ∧
    decodeArm 0xE9638123#32 = .stm2 14#4 true false true 3#4 0x8123#16 ∧
    decodeArm 0xEA00005A#32 = .b 14#4 0x5A#24 ∧
    decodeArm 0xEB00005A#32 = .bl 14#4 0x5A#24 := by decide

theorem test_decode_arm_15 :
    decodeArm 0xFB00005A#32 = .blxImm true 0x5A#24 ∧
    decodeArm 0xE12FFF12#32 = .bx 14#4 0xFFF#12 2#4 ∧
    decodeArm 0xE12FFF22#32 = .bxj 14#4 0xFFF#12 2#4 ∧
    decodeArm 0xE12FFF32#32 = .blxReg 14#4 0xFFF#12 2#4 ∧
    decodeArm 0xEF00005A#32 = .swi 14#4 0x5A#24 ∧
    decodeArm 0xE120067B#32 = .bkpt 14#4 0x6#12 11#4 ∧
    decodeArm 0xED737B5A#32 = .ldcPre 14#4 false true true 3#4 7#4 11#4 0x5A#8 ∧
    decodeArm 0xEC737B5A#32 = .ldcPost 14#4 false true 3#4 7#4 11#4 0x5A#8 := by decide

theorem test_decode_arm_16 :
    decodeArm 0xECD37B77#32 = .ldcUnindexed 14#4 true 3#4 7#4 11#4 0x77#8 ∧
    decodeArm 0xED637B5A#32 = .stcPre 14#4 false true true 3#4 7#4 11#4 0x5A#8 ∧
    decodeArm 0xEC637B5A#32 = .stcPost 14#4 false true 3#4 7#4 11#4 0x5A#8 ∧
    decodeArm 0xECC37B77#32 = .stcUnindexed 14#4 true 3#4 7#4 11#4 0x77#8 ∧
    decodeArm 0xEC431B6A#32 = .mcrr 14#4 3#4 1#4 11#4 6#4 10#4 ∧
    decodeArm 0xEC531B6A#32 = .mrrc 14#4 3#4 1#4 11#4 6#4 10#4 ∧
    decodeArm 0xEE587B6A#32 = .cdp 14#4 5#4 8#4 7#4 11#4 3#3 10#4 ∧
    decodeArm 0xEEA81B7A#32 = .mcr 14#4 5#3 8#4 1#4 11#4 3#3 10#4 := by decide

theorem test_decode_arm_17 :
    decodeArm 0xEEB81B7A#32 = .mrc 14#4 5#3 8#4 1#4 11#4 3#3 10#4 ∧
    decodeArm 0xF553F05A#32 = .pldImm false 3#4 15#4 0x5A#12 ∧
    decodeArm 0xF753FD42#32 = .pldReg false 3#4 15#4 26#5 2#2 2#4 ∧
    decodeArm 0xFE587B6A#32 = .cdp2 5#4 8#4 7#4 11#4 3#3 10#4 ∧
    decodeArm 0xFEA81B7A#32 = .mcr2 5#3 8#4 1#4 11#4 3#3 10#4 ∧
    decodeArm 0xFEB81B7A#32 = .mrc2 5#3 8#4 1#4 11#4 3#3 10#4 ∧
    decodeArm 0xFD737B5A#32 = .ldc2 true false true true 3#4 7#4 11#4 0x5A#8 ∧
    decodeArm 0xFD637B5A#32 = .stc2 true false true true 3#4 7#4 11#4 0x5A#8 := by decide

theorem test_decode_arm_18 :
    decodeArm 0xF0001234#32 = .nvSkipped 0x1234#28 ∧
    decodeArm 0xE0400195#32 = .undefMulSpace01 14#4 0x1#14 5#4 ∧
    decodeArm 0xE1503590#32 = .undefSwapSpaceA 14#4 1#1 0x35#12 0#4 ∧
    decodeArm 0xE1603590#32 = .undefSwapSpaceB 14#4 1#1 0x35#13 0#4 ∧
    decodeArm 0xE1800195#32 = .undefSwapSpaceC 14#4 0x1#15 5#4 ∧
    decodeArm 0xE1403510#32 = .undefMisc0001 14#4 1#1 0x35#12 0#4 ∧
    decodeArm 0xE1403520#32 = .undefMisc0010A 14#4 1#1 0x35#12 0#4 ∧
    decodeArm 0xE1600125#32 = .undefMisc0010B 14#4 0x1#12 5#4 := by decide

theorem test_decode_arm_19 :
    decodeArm 0xE1403530#32 = .undefMisc0011A 14#4 1#1 0x35#12 0#4 ∧
    decodeArm 0xE1600135#32 = .undefMisc0011B 14#4 0x1#12 5#4 ∧
    decodeArm 0xE1203540#32 = .undefMisc0100 14#4 1#2 0x35#12 0#4 ∧
    decodeArm 0xE1203560#32 = .undefMisc0110 14#4 1#2 0x35#12 0#4 ∧
    decodeArm 0xE1403570#32 = .undefMisc0111A 14#4 1#1 0x35#12 0#4 ∧
    decodeArm 0xE1600175#32 = .undefMisc0111B 14#4 0x1#12 5#4 ∧
    decodeArm 0xE3400035#32 = .undefMsrImmSpace 14#4 1#1 0x35#20 ∧
    decodeArm 0xE6000035#32 = .undefLsRegBit4 14#4 0x1#20 5#4 := by decide

theorem test_decode_arm_20 :
    decodeArm 0xEC0002D5#32 = .undefCpLsSpace 14#4 0x2D5#21 := by decide

theorem test_decode_thumb_1 :
    decodeThumb 0x0691#16 = .tLslImm 26#5 2#3 1#3 ∧
    decodeThumb 0x0E91#16 = .tLsrImm 26#5 2#3 1#3 ∧
    decodeThumb 0x1691#16 = .tAsrImm 26#5 2#3 1#3 ∧
    decodeThumb 0x1899#16 = .tAddReg 2#3 3#3 1#3 ∧
    decodeThumb 0x1A99#16 = .tSubReg 2#3 3#3 1#3 ∧
    decodeThumb 0x1C99#16 = .tAddImm3 2#3 3#3 1#3 ∧
    decodeThumb 0x1E99#16 = .tSubImm3 2#3 3#3 1#3 ∧
    decodeThumb 0x215A#16 = .tMovImm 1#3 0x5A#8 := by decide

theorem test_decode_thumb_2 :
    decodeThumb 0x295A#16 = .tCmpImm 1#3 0x5A#8 ∧
    decodeThumb 0x315A#16 = .tAddImm8 1#3 0x5A#8 ∧
    decodeThumb 0x395A#16 = .tSubImm8 1#3 0x5A#8 ∧
    decodeThumb 0x4011#16 = .tAnd 2#3 1#3 ∧
    decodeThumb 0x4051#16 = .tEor 2#3 1#3 ∧
    decodeThumb 0x4091#16 = .tLslReg 2#3 1#3 ∧
    decodeThumb 0x40D1#16 = .tLsrReg 2#3 1#3 ∧
    decodeThumb 0x4111#16 = .tAsrReg 2#3 1#3 := by decide

theorem test_decode_thumb_3 :
    decodeThumb 0x4151#16 = .tAdc 2#3 1#3 ∧
    decodeThumb 0x4191#16 = .tSbc 2#3 1#3 ∧
    decodeThumb 0x41D1#16 = .tRor 2#3 1#3 ∧
    decodeThumb 0x4211#16 = .tTst 2#3 1#3 ∧
    decodeThumb 0x4251#16 = .tNeg 2#3 1#3 ∧
    decodeThumb 0x4291#16 = .tCmpReg 2#3 1#3 ∧
    decodeThumb 0x42D1#16 = .tCmn 2#3 1#3 ∧
    decodeThumb 0x4311#16 = .tOrr 2#3 1#3 := by decide

theorem test_decode_thumb_4 :
    decodeThumb 0x4351#16 = .tMul 2#3 1#3 ∧
    decodeThumb 0x4391#16 = .tBic 2#3 1#3 ∧
    decodeThumb 0x43D1#16 = .tMvn 2#3 1#3 ∧
    decodeThumb 0x4491#16 = .tAddHi true false 2#3 1#3 ∧
    decodeThumb 0x4591#16 = .tCmpHi true false 2#3 1#3 ∧
    decodeThumb 0x4691#16 = .tMovHi true false 2#3 1#3 ∧
    decodeThumb 0x4710#16 = .tBx false 2#3 0#3 ∧
    decodeThumb 0x4790#16 = .tBlxReg false 2#3 0#3 := by decide

theorem test_decode_thumb_5 :
    decodeThumb 0x495A#16 = .tLdrPc 1#3 0x5A#8 ∧
    decodeThumb 0x5099#16 = .tStrReg 2#3 3#3 1#3 ∧
    decodeThumb 0x5299#16 = .tStrhReg 2#3 3#3 1#3 ∧
    decodeThumb 0x5499#16 = .tStrbReg 2#3 3#3 1#3 ∧
    decodeThumb 0x5699#16 = .tLdrsbReg 2#3 3#3 1#3 ∧
    decodeThumb 0x5899#16 = .tLdrReg 2#3 3#3 1#3 ∧
    decodeThumb 0x5A99#16 = .tLdrhReg 2#3 3#3 1#3 ∧
    decodeThumb 0x5C99#16 = .tLdrbReg 2#3 3#3 1#3 := by decide

theorem test_decode_thumb_6 :
    decodeThumb 0x5E99#16 = .tLdrshReg 2#3 3#3 1#3 ∧
    decodeThumb 0x6699#16 = .tStrImm 26#5 3#3 1#3 ∧
    decodeThumb 0x6E99#16 = .tLdrImm 26#5 3#3 1#3 ∧
    decodeThumb 0x7699#16 = .tStrbImm 26#5 3#3 1#3 ∧
    decodeThumb 0x7E99#16 = .tLdrbImm 26#5 3#3 1#3 ∧
    decodeThumb 0x8699#16 = .tStrhImm 26#5 3#3 1#3 ∧
    decodeThumb 0x8E99#16 = .tLdrhImm 26#5 3#3 1#3 ∧
    decodeThumb 0x915A#16 = .tStrSp 1#3 0x5A#8 := by decide

theorem test_decode_thumb_7 :
    decodeThumb 0x995A#16 = .tLdrSp 1#3 0x5A#8 ∧
    decodeThumb 0xA15A#16 = .tAddPc 1#3 0x5A#8 ∧
    decodeThumb 0xA95A#16 = .tAddSp 1#3 0x5A#8 ∧
    decodeThumb 0xB05A#16 = .tAddSpImm 90#7 ∧
    decodeThumb 0xB0DA#16 = .tSubSpImm 90#7 ∧
    decodeThumb 0xB523#16 = .tPush true 0x23#8 ∧
    decodeThumb 0xBD23#16 = .tPop true 0x23#8 ∧
    decodeThumb 0xBE5A#16 = .tBkpt 0x5A#8 := by decide

theorem test_decode_thumb_8 :
    decodeThumb 0xC323#16 = .tStmia 3#3 0x23#8 ∧
    decodeThumb 0xCB23#16 = .tLdmia 3#3 0x23#8 ∧
    decodeThumb 0xDD5A#16 = .tBCond 13#4 0x5A#8 ∧
    decodeThumb 0xDF5A#16 = .tSwi 0x5A#8 ∧
    decodeThumb 0xE05A#16 = .tB 0x5A#11 ∧
    decodeThumb 0xE8B4#16 = .tBlxSuffix 0x5A#10 ∧
    decodeThumb 0xF05A#16 = .tBlPrefix 0x5A#11 ∧
    decodeThumb 0xF85A#16 = .tBlSuffix 0x5A#11 := by decide

theorem test_decode_thumb_9 :
    decodeThumb 0xB1D5#16 = .tUndefB1 0xD5#8 ∧
    decodeThumb 0xB2D5#16 = .tUndefB2B3 0xD5#9 ∧
    decodeThumb 0xB6D5#16 = .tUndefB6B7 0xD5#9 ∧
    decodeThumb 0xBAD5#16 = .tUndefB8Bb 0x2D5#10 ∧
    decodeThumb 0xBFD5#16 = .tUndefBf 0xD5#8 ∧
    decodeThumb 0xDED5#16 = .tUndefCondE 0xD5#8 ∧
    decodeThumb 0xEDAB#16 = .tUndefBlxOdd 0x2D5#10 := by decide

/-! ### Single steps, from spec/95_test_vectors.md section 3 -/

theorem test_movImmShift_sh1 :
    leads (decodeArm 0xE1B00001#32) (arm 2 [(1, 0x80000001#32)])
      (fun t => has [(0, 0x80000001#32)] t && nzcv t == 10) = true := by decide

theorem test_movImmShift_sh7 :
    leads (decodeArm 0xE1B00061#32) (arm 2 [(1, 0x1#32)])
      (fun t => has [(0, 0x80000000#32)] t && nzcv t == 10) = true := by decide

theorem test_movRegShift_sh11 :
    leads (decodeArm 0xE1B00211#32) (arm 0 [(1, 0x80000001#32), (2, 0x20#32)])
      (fun t => has [(0, 0x0#32)] t && nzcv t == 6) = true := by decide

theorem test_movRegShift_sh16 :
    leads (decodeArm 0xE1B00271#32) (arm 0 [(1, 0x80000001#32), (2, 0x20#32)])
      (fun t => has [(0, 0x80000001#32)] t && nzcv t == 10) = true := by decide

theorem test_movImm_sh18 :
    leads (decodeArm 0xE3B004FF#32) (arm 0 [])
      (fun t => has [(0, 0xFF000000#32)] t && nzcv t == 10) = true := by decide

theorem test_movImm_sh19 :
    leads (decodeArm 0xE3B00001#32) (arm 2 []) (fun t => has [(0, 0x1#32)] t && nzcv t == 2) = true := by decide

theorem test_andImmShift_dp1 :
    leads (decodeArm 0xE0010002#32) (arm 0 [(1, 0xF0F0F0F0#32), (2, 0xFF00FF00#32)])
      (fun t => has [(0, 0xF000F000#32)] t) = true := by decide

theorem test_eorImmShift_dp2 :
    leads (decodeArm 0xE0210002#32) (arm 0 [(1, 0xF0F0F0F0#32), (2, 0xFF00FF00#32)])
      (fun t => has [(0, 0xFF00FF0#32)] t) = true := by decide

theorem test_subImmShift_dp3 :
    leads (decodeArm 0xE0510002#32) (arm 0 [(1, 0x1#32), (2, 0x2#32)])
      (fun t => has [(0, 0xFFFFFFFF#32)] t && nzcv t == 8) = true := by decide

theorem test_subImmShift_dp4 :
    leads (decodeArm 0xE0510002#32) (arm 0 [(1, 0x5#32), (2, 0x5#32)])
      (fun t => has [(0, 0x0#32)] t && nzcv t == 6) = true := by decide

theorem test_rsbImm_dp5 :
    leads (decodeArm 0xE2610000#32) (arm 0 [(1, 0x5#32)]) (fun t => has [(0, 0xFFFFFFFB#32)] t) = true := by decide

theorem test_rsbImm_dp6 :
    leads (decodeArm 0xE2710000#32) (arm 0 [(1, 0x80000000#32)])
      (fun t => has [(0, 0x80000000#32)] t && nzcv t == 9) = true := by decide

theorem test_addImmShift_dp7 :
    leads (decodeArm 0xE0910002#32) (arm 0 [(1, 0x7FFFFFFF#32), (2, 0x1#32)])
      (fun t => has [(0, 0x80000000#32)] t && nzcv t == 9) = true := by decide

theorem test_addImmShift_dp9 :
    leads (decodeArm 0xE0910002#32) (arm 0 [(1, 0x80000000#32), (2, 0x80000000#32)])
      (fun t => has [(0, 0x0#32)] t && nzcv t == 7) = true := by decide

theorem test_adcImmShift_dp10 :
    leads (decodeArm 0xE0A10002#32) (arm 2 [(1, 0x1#32), (2, 0x2#32)])
      (fun t => has [(0, 0x4#32)] t && nzcv t == 2) = true := by decide

theorem test_adcImmShift_dp11 :
    leads (decodeArm 0xE0B10002#32) (arm 2 [(1, 0xFFFFFFFF#32), (2, 0x0#32)])
      (fun t => has [(0, 0x0#32)] t && nzcv t == 6) = true := by decide

theorem test_sbcImmShift_dp12 :
    leads (decodeArm 0xE0C10002#32) (arm 0 [(1, 0x5#32), (2, 0x2#32)])
      (fun t => has [(0, 0x2#32)] t) = true := by decide

theorem test_sbcImmShift_dp13 :
    leads (decodeArm 0xE0D10002#32) (arm 0 [(1, 0x0#32), (2, 0x0#32)])
      (fun t => has [(0, 0xFFFFFFFF#32)] t && nzcv t == 8) = true := by decide

theorem test_rscImmShift_dp14 :
    leads (decodeArm 0xE0E10002#32) (arm 2 [(1, 0x2#32), (2, 0x5#32)])
      (fun t => has [(0, 0x3#32)] t) = true := by decide

theorem test_tstImm_dp15 :
    leads (decodeArm 0xE3110001#32) (arm 0 [(1, 0x2#32)])
      (fun t => has [(0, 0x0#32), (1, 0x2#32)] t && nzcv t == 4) = true := by decide

theorem test_teqImmShift_dp16 :
    leads (decodeArm 0xE1310002#32) (arm 0 [(1, 0x7#32), (2, 0x7#32)]) (fun t => nzcv t == 4) = true := by decide

theorem test_cmpImmShift_dp17 :
    leads (decodeArm 0xE1510002#32) (arm 0 [(1, 0x3#32), (2, 0x3#32)]) (fun t => nzcv t == 6) = true := by decide

theorem test_cmnImmShift_dp18 :
    leads (decodeArm 0xE1710002#32) (arm 0 [(1, 0xFFFFFFFF#32), (2, 0x1#32)])
      (fun t => nzcv t == 6) = true := by decide

theorem test_orrImmShift_dp19 :
    leads (decodeArm 0xE1810002#32) (arm 0 [(1, 0xF0#32), (2, 0xF#32)])
      (fun t => has [(0, 0xFF#32)] t) = true := by decide

theorem test_bicImm_dp21 :
    leads (decodeArm 0xE3C100FF#32) (arm 0 [(1, 0x1234#32)]) (fun t => has [(0, 0x1200#32)] t) = true := by decide

theorem test_mvnImm_dp22 :
    leads (decodeArm 0xE3E00000#32) (arm 0 []) (fun t => has [(0, 0xFFFFFFFF#32)] t) = true := by decide

theorem test_andImmShift_dp23 :
    leads (decodeArm 0xE0110002#32) (arm 1 [(1, 0x3#32), (2, 0x1#32)])
      (fun t => has [(0, 0x1#32)] t && nzcv t == 1) = true := by decide

theorem test_subImm_dp29 :
    leads (decodeArm 0xE25EF004#32) (let s := arm 0 [(14, 0x2004#32)]; { s with cpsr := 0xD2#32, spsrIrq := 0x00000030#32 })
      (fun t => nextPc t == 0x2000#32 && t.cpsr == 0x00000030#32) = true := by decide

theorem test_addImm_dp31 :
    leads (decodeArm 0xE28F0004#32) (arm 0 []) (fun t => has [(0, 0x100C#32)] t) = true := by decide

theorem test_mrs_st1 : leads (decodeArm 0xE10F0000#32) (arm 0 []) (fun t => has [(0, 0xD3#32)] t) = true := by decide

theorem test_mrs_st2 :
    leads (decodeArm 0xE14F0000#32) (let s := arm 0 []; { s with spsrSvc := 0xABCD0010#32 })
      (fun t => has [(0, 0xABCD0010#32)] t) = true := by decide

theorem test_msrImm_st4 :
    leads (decodeArm 0xE321F01F#32) (let s := arm 0 []; { s with bankSvc := #v[0xD#32, 0xE#32] })
      (fun t => has [(13, 0xD#32), (14, 0xE#32)] t && t.cpsr == 0x1F#32) = true := by decide

theorem test_msrReg_st5 :
    leads (decodeArm 0xE128F000#32) (arm 0 [(0, 0x60000000#32)])
      (fun t => t.cpsr == 0x600000D3#32) = true := by decide

theorem test_msrImm_st6 :
    leads (decodeArm 0xE328F20F#32) (let s := arm 0 []; { s with cpsr := 0x10#32 })
      (fun t => t.cpsr == 0xF0000010#32) = true := by decide

theorem test_msrReg_st8 :
    leads (decodeArm 0xE169F000#32) (let s := arm 0 [(0, 0x1234#32)]; { s with spsrSvc := 0x10#32 })
      (fun t => t.spsrSvc == 0x34#32) = true := by decide

theorem test_clz_st11 :
    leads (decodeArm 0xE16F0F11#32) (arm 0 [(1, 0x10000#32)]) (fun t => has [(0, 0xF#32)] t) = true := by decide

theorem test_clz_st12 :
    leads (decodeArm 0xE16F0F11#32) (arm 0 [(1, 0x0#32)]) (fun t => has [(0, 0x20#32)] t) = true := by decide

theorem test_qadd_st14 :
    leads (decodeArm 0xE1020051#32) (arm 0 [(1, 0x7FFFFFFF#32), (2, 0x1#32)])
      (fun t => has [(0, 0x7FFFFFFF#32)] t && flagQ t) = true := by decide

theorem test_qadd_st16 :
    leads (decodeArm 0xE1020051#32) (arm 0 [(1, 0x5#32), (2, 0x6#32)])
      (fun t => has [(0, 0xB#32)] t && !flagQ t) = true := by decide

theorem test_qsub_st17 :
    leads (decodeArm 0xE1220051#32) (arm 0 [(1, 0x80000000#32), (2, 0x1#32)])
      (fun t => has [(0, 0x80000000#32)] t && flagQ t) = true := by decide

theorem test_qdadd_st18 :
    leads (decodeArm 0xE1420051#32) (arm 0 [(1, 0x1#32), (2, 0x40000000#32)])
      (fun t => has [(0, 0x7FFFFFFF#32)] t && flagQ t) = true := by decide

theorem test_qdsub_st19 :
    leads (decodeArm 0xE1620051#32) (arm 0 [(1, 0x0#32), (2, 0xC0000000#32)])
      (fun t => has [(0, 0x7FFFFFFF#32)] t && flagQ t) = true := by decide

theorem test_mul_mu1 :
    leads (decodeArm 0xE0000291#32) (arm 0 [(1, 0x3#32), (2, 0x4#32)])
      (fun t => has [(0, 0xC#32)] t) = true := by decide

theorem test_mul_mu3 :
    leads (decodeArm 0xE0100291#32) (arm 15 [(1, 0x0#32), (2, 0x5#32)])
      (fun t => has [(0, 0x0#32)] t && nzcv t == 7) = true := by decide

theorem test_mla_mu5 :
    leads (decodeArm 0xE0203291#32) (arm 0 [(1, 0x3#32), (2, 0x4#32), (3, 0x5#32)])
      (fun t => has [(0, 0x11#32)] t) = true := by decide

theorem test_umull_mu6 :
    leads (decodeArm 0xE0810392#32) (arm 0 [(2, 0xFFFFFFFF#32), (3, 0x2#32)])
      (fun t => has [(0, 0xFFFFFFFE#32), (1, 0x1#32)] t) = true := by decide

theorem test_umull_mu7 :
    leads (decodeArm 0xE0910392#32) (arm 0 [(2, 0x80000000#32), (3, 0x2#32)])
      (fun t => has [(0, 0x0#32), (1, 0x1#32)] t && !flagN t && !flagZ t) = true := by decide

theorem test_umlal_mu8 :
    leads (decodeArm 0xE0A10392#32) (arm 0 [(0, 0x2#32), (2, 0xFFFFFFFF#32), (3, 0x2#32)])
      (fun t => has [(0, 0x0#32), (1, 0x2#32)] t) = true := by decide

theorem test_smull_mu9 :
    leads (decodeArm 0xE0C10392#32) (arm 0 [(2, 0xFFFFFFFF#32), (3, 0x2#32)])
      (fun t => has [(0, 0xFFFFFFFE#32), (1, 0xFFFFFFFF#32)] t) = true := by decide

theorem test_smull_mu10 :
    leads (decodeArm 0xE0C10392#32) (arm 0 [(2, 0x80000000#32), (3, 0x80000000#32)])
      (fun t => has [(0, 0x0#32), (1, 0x40000000#32)] t) = true := by decide

theorem test_smlal_mu11 :
    leads (decodeArm 0xE0E10392#32) (arm 0 [(0, 0x2#32), (2, 0xFFFFFFFF#32), (3, 0x2#32)])
      (fun t => has [(0, 0x0#32), (1, 0x0#32)] t) = true := by decide

theorem test_smlaXY_mu13 :
    leads (decodeArm 0xE1003281#32) (arm 0 [(1, 0x2#32), (2, 0x3#32), (3, 0xA#32)])
      (fun t => has [(0, 0x10#32)] t) = true := by decide

theorem test_smlaXY_mu14 :
    leads (decodeArm 0xE1003281#32) (arm 0 [(1, 0x8000#32), (2, 0x8000#32), (3, 0x40000000#32)])
      (fun t => has [(0, 0x80000000#32)] t && flagQ t) = true := by decide

theorem test_smlawY_mu15 :
    leads (decodeArm 0xE1203281#32) (arm 0 [(1, 0x10000#32), (2, 0x2#32), (3, 0xA#32)])
      (fun t => has [(0, 0xC#32)] t) = true := by decide

theorem test_smlawY_mu16 :
    leads (decodeArm 0xE12032C1#32) (arm 0 [(1, 0x20000#32), (2, 0xFFFF0000#32)])
      (fun t => has [(0, 0xFFFFFFFE#32)] t) = true := by decide

theorem test_smulwY_mu17 :
    leads (decodeArm 0xE12002A1#32) (arm 0 [(1, 0x10000#32), (2, 0x2#32)])
      (fun t => has [(0, 0x2#32)] t) = true := by decide

theorem test_smlalXY_mu18 :
    leads (decodeArm 0xE1410382#32) (arm 0 [(0, 0x5#32), (2, 0xFFFF#32), (3, 0x2#32)])
      (fun t => has [(0, 0x3#32), (1, 0x0#32)] t) = true := by decide

theorem test_smulXY_mu19 :
    leads (decodeArm 0xE1600281#32) (arm 0 [(1, 0x8000#32), (2, 0x8000#32)])
      (fun t => has [(0, 0x40000000#32)] t && !flagQ t) = true := by decide

theorem test_smulXY_mu20 :
    leads (decodeArm 0xE16002E1#32) (arm 0 [(1, 0x80000000#32), (2, 0x30000#32)])
      (fun t => has [(0, 0xFFFE8000#32)] t) = true := by decide

theorem test_ldrImmPre_ls1 :
    leads (decodeArm 0xE5910004#32) (let s := arm 0 [(1, 0x3000#32)]; place s [(0x3004#32, 0xDEADBEEF#32)])
      (fun t => has [(0, 0xDEADBEEF#32)] t) = true := by decide

theorem test_ldrImmPre_ls2 :
    leads (decodeArm 0xE5910000#32) (let s := arm 0 [(1, 0x3001#32)]; place s [(0x3000#32, 0x44332211#32)])
      (fun t => has [(0, 0x11443322#32)] t) = true := by decide

theorem test_ldrbImmPost_ls3 :
    leads (decodeArm 0xE4D10001#32) (let s := arm 0 [(1, 0x3000#32)]; place s [(0x3000#32, 0x11#32)])
      (fun t => has [(0, 0x11#32), (1, 0x3001#32)] t) = true := by decide

theorem test_strImmPre_ls4 :
    leads (decodeArm 0xE5210004#32) (arm 0 [(0, 0xCAFEF00D#32), (1, 0x3008#32)])
      (fun t => has [(1, 0x3004#32)] t && word t 0x3004#32 == 0xCAFEF00D#32) = true := by decide

theorem test_strImmPre_ls5 :
    leads (decodeArm 0xE5810000#32) (arm 0 [(0, 0xAABBCCDD#32), (1, 0x3002#32)])
      (fun t => word t 0x3000#32 == 0xAABBCCDD#32) = true := by decide

theorem test_strbRegPre_ls6 :
    leads (decodeArm 0xE7C10002#32) (arm 0 [(0, 0x1234#32), (1, 0x3000#32), (2, 0x3#32)])
      (fun t => byte t 0x3003#32 == 0x34#8) = true := by decide

theorem test_ldrtImm_ls7 :
    leads (decodeArm 0xE4B10004#32) (let s := arm 0 [(1, 0x3000#32)]; place s [(0x3000#32, 0x7#32)])
      (fun t => has [(0, 0x7#32), (1, 0x3004#32)] t) = true := by decide

theorem test_ldrhImm_ls8 :
    leads (decodeArm 0xE1D100B2#32) (let s := arm 0 [(1, 0x3000#32)]; place s [(0x3000#32, 0x12340000#32)])
      (fun t => has [(0, 0x1234#32)] t) = true := by decide

theorem test_ldrsbImm_ls10 :
    leads (decodeArm 0xE1D100D0#32) (let s := arm 0 [(1, 0x3000#32)]; place s [(0x3000#32, 0x80#32)])
      (fun t => has [(0, 0xFFFFFF80#32)] t) = true := by decide

theorem test_ldrshImm_ls11 :
    leads (decodeArm 0xE1D100F0#32) (let s := arm 0 [(1, 0x3000#32)]; place s [(0x3000#32, 0x8001#32)])
      (fun t => has [(0, 0xFFFF8001#32)] t) = true := by decide

theorem test_strhImm_ls12 :
    leads (decodeArm 0xE1C100B0#32) (let s := arm 0 [(0, 0xABCD1234#32), (1, 0x3000#32)]; place s [(0x3000#32, 0xFFFFFFFF#32)])
      (fun t => word t 0x3000#32 == 0xFFFF1234#32) = true := by decide

theorem test_ldrdImm_ls13 :
    leads (decodeArm 0xE1C120D0#32) (let s := arm 0 [(1, 0x3000#32)]; place s [(0x3000#32, 0x11111111#32), (0x3004#32, 0x22222222#32)])
      (fun t => has [(2, 0x11111111#32), (3, 0x22222222#32)] t) = true := by decide

theorem test_strdImm_ls14 :
    leads (decodeArm 0xE1C120F0#32) (arm 0 [(1, 0x3000#32), (2, 0xA#32), (3, 0xB#32)])
      (fun t => word t 0x3000#32 == 0xA#32 && word t 0x3004#32 == 0xB#32) = true := by decide

theorem test_ldm1_ls16 :
    leads (decodeArm 0xE8B00006#32) (let s := arm 0 [(0, 0x3000#32)]; place s [(0x3000#32, 0x11111111#32), (0x3004#32, 0x22222222#32)])
      (fun t => has [(1, 0x11111111#32), (2, 0x22222222#32), (0, 0x3008#32)] t) = true := by decide

theorem test_stm1_ls17 :
    leads (decodeArm 0xE92D4010#32) (arm 0 [(13, 0x2000#32), (4, 0x44#32), (14, 0xEE#32)])
      (fun t => has [(13, 0x1FF8#32)] t && word t 0x1FF8#32 == 0x44#32 && word t 0x1FFC#32 == 0xEE#32) = true := by decide

theorem test_ldm1_ls19 :
    leads (decodeArm 0xE8BD8001#32) (let s := arm 0 [(13, 0x100#32)]; place s [(0x100#32, 0x1#32), (0x104#32, 0x3001#32)])
      (fun t => has [(0, 0x1#32), (13, 0x108#32)] t && nextPc t == 0x3000#32 && flagT t) = true := by decide

theorem test_ldm3_ls20 :
    leads (decodeArm 0xE8FD8001#32) (let s := arm 0 [(13, 0x100#32)]; place { s with spsrSvc := 0x10#32 } [(0x100#32, 1#32), (0x104#32, 0x2000#32)])
      (fun t => has [(0, 0x1#32)] t && nextPc t == 0x2000#32 && t.cpsr == 0x10#32 && t.bankSvc[0] == 0x108#32) = true := by decide

theorem test_ldm2_ls21 :
    leads (decodeArm 0xE8D02000#32) (let s := arm 0 [(0, 0x100#32), (13, 0x9#32)]; place { s with cpsr := 0xD2#32 } [(0x100#32, 5#32)])
      (fun t => has [(13, 0x9#32)] t && userReg t 13#4 == 5#32) = true := by decide

theorem test_swp_ls23 :
    leads (decodeArm 0xE1020091#32) (let s := arm 0 [(1, 0x5#32), (2, 0x3000#32)]; place s [(0x3000#32, 0x9#32)])
      (fun t => has [(0, 0x9#32)] t && word t 0x3000#32 == 0x5#32) = true := by decide

theorem test_swpb_ls24 :
    leads (decodeArm 0xE1420091#32) (let s := arm 0 [(1, 0x1FF#32), (2, 0x3000#32)]; place s [(0x3000#32, 0x22#32)])
      (fun t => has [(0, 0x22#32)] t && byte t 0x3000#32 == 0xFF#8) = true := by decide

theorem test_pldImm_ls29 :
    leads (decodeArm 0xF5D0F000#32) (arm 0 [(0, 0x5#32)])
      (fun t => has [(0, 0x5#32), (15, 0x1008#32)] t) = true := by decide

theorem test_b_br1 : leads (decodeArm 0xEAFFFFFE#32) (arm 0 []) (fun t => nextPc t == 0x1000#32) = true := by decide

theorem test_bl_br2 :
    leads (decodeArm 0xEB000000#32) (arm 0 [])
      (fun t => has [(14, 0x1004#32)] t && nextPc t == 0x1008#32) = true := by decide

theorem test_b_br3 :
    leads (decodeArm 0xEA7FFFFF#32) (arm 0 []) (fun t => nextPc t == 0x2001004#32) = true := by decide

theorem test_blxImm_br6 :
    leads (decodeArm 0xFB000000#32) (arm 0 [])
      (fun t => has [(14, 0x1004#32)] t && nextPc t == 0x100A#32 && flagT t) = true := by decide

theorem test_bx_br7 :
    leads (decodeArm 0xE12FFF1E#32) (arm 0 [(14, 0x2001#32)])
      (fun t => nextPc t == 0x2000#32 && flagT t) = true := by decide

theorem test_blxReg_br10 :
    leads (decodeArm 0xE12FFF3E#32) (arm 0 [(14, 0x2001#32)])
      (fun t => has [(14, 0x1004#32)] t && nextPc t == 0x2000#32 && flagT t) = true := by decide

theorem test_bxj_br11 :
    leads (decodeArm 0xE12FFF20#32) (arm 0 [(0, 0x4000#32)])
      (fun t => nextPc t == 0x4000#32 && !flagT t) = true := by decide

theorem test_swi_br12 :
    leads (decodeArm 0xEF000000#32) (arm 0 [])
      (fun t => has [(14, 0x1004#32)] t && nextPc t == 0x8#32 && t.cpsr == 0xD3#32 && t.spsrSvc == 0xD3#32) = true := by decide

theorem test_bkpt_br13 :
    leads (decodeArm 0xE1200070#32) (arm 0 [])
      (fun t => has [(14, 0x1004#32)] t && nextPc t == 0xC#32 && t.cpsr == 0xD7#32 && t.spsrAbt == 0xD3#32) = true := by decide

theorem test_undefLsRegBit4_br16 :
    leads (decodeArm 0xE7F000F0#32) (arm 0 [])
      (fun t => has [(14, 0x1004#32)] t && nextPc t == 0x4#32 && t.cpsr == 0xDB#32) = true := by decide

theorem test_mrc_cp1 :
    leads (decodeArm 0xEE110F10#32) (arm 0 []) (fun t => has [(0, 0x50078#32)] t) = true := by decide

theorem test_mcr_cp2 :
    leads (decodeArm 0xEE010F10#32) (arm 0 [(0, 0x3000#32)])
      (fun t => t.ctrl == 0x53078#32 && t.exceptionBase == 0xFFFF0000#32) = true := by decide

theorem test_mcr_cp12 :
    leads (decodeArm 0xEE070F90#32) (arm 0 []) (fun t => t.halt == .indefinite) = true := by decide

theorem test_mrc_cp14 :
    leads (decodeArm 0xEE17FF7A#32) (arm 15 []) (fun t => has [(15, 0x1008#32)] t && nzcv t == 0) = true := by decide

theorem test_cdp_cp17 :
    leads (decodeArm 0xEE000100#32) (arm 0 [])
      (fun t => has [(14, 0x1004#32)] t && nextPc t == 0x4#32 && curMode t == 0x1B#5) = true := by decide

theorem test_ldcPre_cp18 :
    leads (decodeArm 0xED900E00#32) (arm 0 [])
      (fun t => has [(14, 0x1004#32)] t && nextPc t == 0x4#32 && curMode t == 0x1B#5) = true := by decide

theorem test_mcrr_cp19 :
    leads (decodeArm 0xEC410F00#32) (arm 0 [])
      (fun t => has [(14, 0x1004#32)] t && nextPc t == 0x4#32 && curMode t == 0x1B#5) = true := by decide

theorem test_mcr2_cp20 :
    leads (decodeArm 0xFE070F15#32) (arm 0 []) (fun t => has [(15, 0x1008#32)] t) = true := by decide

theorem test_tLslImm_ta1 :
    leads (decodeThumb 0x0088#16) (thumb 0 [(1, 0xC0000001#32)])
      (fun t => has [(0, 0x4#32)] t && nzcv t == 2) = true := by decide

theorem test_tLslImm_ta2 :
    leads (decodeThumb 0x0008#16) (thumb 2 [(1, 0x80000000#32)])
      (fun t => has [(0, 0x80000000#32)] t && nzcv t == 10) = true := by decide

theorem test_tLsrImm_ta3 :
    leads (decodeThumb 0x0848#16) (thumb 0 [(1, 0x3#32)])
      (fun t => has [(0, 0x1#32)] t && nzcv t == 2) = true := by decide

theorem test_tLsrImm_ta4 :
    leads (decodeThumb 0x0808#16) (thumb 0 [(1, 0x80000000#32)])
      (fun t => has [(0, 0x0#32)] t && nzcv t == 6) = true := by decide

theorem test_tAsrImm_ta5 :
    leads (decodeThumb 0x1008#16) (thumb 0 [(1, 0x80000000#32)])
      (fun t => has [(0, 0xFFFFFFFF#32)] t && nzcv t == 10) = true := by decide

theorem test_tAsrImm_ta6 :
    leads (decodeThumb 0x1048#16) (thumb 0 [(1, 0x80000003#32)])
      (fun t => has [(0, 0xC0000001#32)] t && nzcv t == 10) = true := by decide

theorem test_tAddReg_ta7 :
    leads (decodeThumb 0x1888#16) (thumb 0 [(1, 0xFFFFFFFF#32), (2, 0x1#32)])
      (fun t => has [(0, 0x0#32)] t && nzcv t == 6) = true := by decide

theorem test_tSubReg_ta8 :
    leads (decodeThumb 0x1A88#16) (thumb 0 [(1, 0x0#32), (2, 0x1#32)])
      (fun t => has [(0, 0xFFFFFFFF#32)] t && nzcv t == 8) = true := by decide

theorem test_tAddImm3_ta9 :
    leads (decodeThumb 0x1CC8#16) (thumb 0 [(1, 0x7FFFFFFE#32)])
      (fun t => has [(0, 0x80000001#32)] t && nzcv t == 9) = true := by decide

theorem test_tSubImm3_ta11 :
    leads (decodeThumb 0x1E48#16) (thumb 0 [(1, 0x1#32)])
      (fun t => has [(0, 0x0#32)] t && nzcv t == 6) = true := by decide

theorem test_tMovImm_ta13 :
    leads (decodeThumb 0x2000#16) (thumb 8 []) (fun t => has [(0, 0x0#32)] t && nzcv t == 4) = true := by decide

theorem test_tCmpImm_ta14 :
    leads (decodeThumb 0x2805#16) (thumb 0 [(0, 0x5#32)])
      (fun t => has [(0, 0x5#32)] t && nzcv t == 6) = true := by decide

theorem test_tAddImm8_ta16 :
    leads (decodeThumb 0x3001#16) (thumb 0 [(0, 0xFFFFFFFF#32)])
      (fun t => has [(0, 0x0#32)] t && nzcv t == 6) = true := by decide

theorem test_tSubImm8_ta17 :
    leads (decodeThumb 0x3801#16) (thumb 0 [(0, 0x80000000#32)])
      (fun t => has [(0, 0x7FFFFFFF#32)] t && nzcv t == 3) = true := by decide

theorem test_tAnd_ta18 :
    leads (decodeThumb 0x4008#16) (thumb 0 [(0, 0xF0#32), (1, 0x3C#32)])
      (fun t => has [(0, 0x30#32)] t) = true := by decide

theorem test_tEor_ta19 :
    leads (decodeThumb 0x4048#16) (thumb 0 [(0, 0x55#32), (1, 0x55#32)])
      (fun t => has [(0, 0x0#32)] t && nzcv t == 4) = true := by decide

theorem test_tLslReg_ta20 :
    leads (decodeThumb 0x4088#16) (thumb 0 [(0, 0x1#32), (1, 0x20#32)])
      (fun t => has [(0, 0x0#32)] t && nzcv t == 6) = true := by decide

theorem test_tLslReg_ta21 :
    leads (decodeThumb 0x4088#16) (thumb 2 [(0, 0x1#32), (1, 0x21#32)])
      (fun t => has [(0, 0x0#32)] t && nzcv t == 4) = true := by decide

theorem test_tLsrReg_ta22 :
    leads (decodeThumb 0x40C8#16) (thumb 0 [(0, 0x80000000#32), (1, 0x21#32)])
      (fun t => has [(0, 0x0#32)] t && nzcv t == 4) = true := by decide

theorem test_tAsrReg_ta23 :
    leads (decodeThumb 0x4108#16) (thumb 0 [(0, 0x80000000#32), (1, 0x100#32)])
      (fun t => has [(0, 0x80000000#32)] t && nzcv t == 8) = true := by decide

theorem test_tAsrReg_ta24 :
    leads (decodeThumb 0x4108#16) (thumb 2 [(0, 0x40000000#32), (1, 0x20#32)])
      (fun t => has [(0, 0x0#32)] t && nzcv t == 4) = true := by decide

theorem test_tAdc_ta25 :
    leads (decodeThumb 0x4148#16) (thumb 2 [(0, 0x1#32), (1, 0x1#32)])
      (fun t => has [(0, 0x3#32)] t && nzcv t == 0) = true := by decide

theorem test_tSbc_ta26 :
    leads (decodeThumb 0x4188#16) (thumb 0 [(0, 0x5#32), (1, 0x3#32)])
      (fun t => has [(0, 0x1#32)] t && nzcv t == 2) = true := by decide

theorem test_tRor_ta28 :
    leads (decodeThumb 0x41C8#16) (thumb 0 [(0, 0x1#32), (1, 0x1#32)])
      (fun t => has [(0, 0x80000000#32)] t && nzcv t == 10) = true := by decide

theorem test_tRor_ta29 :
    leads (decodeThumb 0x41C8#16) (thumb 0 [(0, 0x80000001#32), (1, 0x20#32)])
      (fun t => has [(0, 0x80000001#32)] t && nzcv t == 10) = true := by decide

theorem test_tTst_ta31 :
    leads (decodeThumb 0x4208#16) (thumb 0 [(0, 0x1#32), (1, 0x2#32)])
      (fun t => has [(0, 0x1#32)] t && nzcv t == 4) = true := by decide

theorem test_tNeg_ta32 :
    leads (decodeThumb 0x4248#16) (thumb 0 [(1, 0x1#32)])
      (fun t => has [(0, 0xFFFFFFFF#32)] t && nzcv t == 8) = true := by decide

theorem test_tNeg_ta34 :
    leads (decodeThumb 0x4248#16) (thumb 0 [(1, 0x80000000#32)])
      (fun t => has [(0, 0x80000000#32)] t && nzcv t == 9) = true := by decide

theorem test_tCmpReg_ta35 :
    leads (decodeThumb 0x4288#16) (thumb 0 [(0, 0x1#32), (1, 0x2#32)])
      (fun t => has [(0, 0x1#32)] t && nzcv t == 8) = true := by decide

theorem test_tCmn_ta36 :
    leads (decodeThumb 0x42C8#16) (thumb 0 [(0, 0x1#32), (1, 0xFFFFFFFF#32)])
      (fun t => has [(0, 0x1#32)] t && nzcv t == 6) = true := by decide

theorem test_tOrr_ta37 :
    leads (decodeThumb 0x4308#16) (thumb 0 [(0, 0xF0#32), (1, 0xF#32)])
      (fun t => has [(0, 0xFF#32)] t) = true := by decide

theorem test_tMul_ta38 :
    leads (decodeThumb 0x4348#16) (thumb 0 [(0, 0x6#32), (1, 0x7#32)])
      (fun t => has [(0, 0x2A#32)] t) = true := by decide

theorem test_tBic_ta40 :
    leads (decodeThumb 0x4388#16) (thumb 0 [(0, 0xFF#32), (1, 0xF#32)])
      (fun t => has [(0, 0xF0#32)] t) = true := by decide

theorem test_tMvn_ta41 :
    leads (decodeThumb 0x43C8#16) (thumb 0 [])
      (fun t => has [(0, 0xFFFFFFFF#32)] t && nzcv t == 8) = true := by decide

theorem test_tAddHi_ta42 :
    leads (decodeThumb 0x4440#16) (thumb 9 [(0, 0x1#32), (8, 0x2#32)])
      (fun t => has [(0, 0x3#32)] t && nzcv t == 9) = true := by decide

theorem test_tAddHi_ta43 :
    leads (decodeThumb 0x4487#16) (thumb 0 [(0, 0x10#32)])
      (fun t => nextPc t == 0x2014#32 && flagT t) = true := by decide

theorem test_tCmpHi_ta45 :
    leads (decodeThumb 0x4540#16) (thumb 0 [(0, 0x7#32), (8, 0x7#32)]) (fun t => nzcv t == 6) = true := by decide

theorem test_tMovHi_ta46 :
    leads (decodeThumb 0x46F7#16) (thumb 0 [(14, 0x3001#32)])
      (fun t => nextPc t == 0x3000#32 && flagT t) = true := by decide

theorem test_tBx_ta48 :
    leads (decodeThumb 0x4778#16) (thumb 0 []) (fun t => nextPc t == 0x2004#32 && !flagT t) = true := by decide

theorem test_tBlxReg_ta50 :
    leads (decodeThumb 0x4798#16) (thumb 0 [(3, 0x3000#32)])
      (fun t => has [(14, 0x2003#32)] t && nextPc t == 0x3000#32 && !flagT t) = true := by decide

theorem test_tAddPc_ta51 :
    leads (decodeThumb 0xA001#16) (thumb 0 [(15, 0x2006#32)]) (fun t => has [(0, 0x2008#32)] t) = true := by decide

theorem test_tAddSp_ta52 :
    leads (decodeThumb 0xA801#16) (thumb 0 [(13, 0x8000#32)]) (fun t => has [(0, 0x8004#32)] t) = true := by decide

theorem test_tAddSpImm_ta53 :
    leads (decodeThumb 0xB004#16) (thumb 0 [(13, 0x8000#32)]) (fun t => has [(13, 0x8010#32)] t) = true := by decide

theorem test_tSubSpImm_ta54 :
    leads (decodeThumb 0xB084#16) (thumb 0 [(13, 0x8000#32)]) (fun t => has [(13, 0x7FF0#32)] t) = true := by decide

theorem test_tLdrPc_tm1 :
    leads (decodeThumb 0x4801#16) (let s := thumb 0 [(15, 0x2006#32)]; place s [(0x2008#32, 0xABCD#32)])
      (fun t => has [(0, 0xABCD#32)] t) = true := by decide

theorem test_tStrReg_tm2 :
    leads (decodeThumb 0x5088#16) (thumb 0 [(0, 0x11223344#32), (1, 0x100#32), (2, 0x4#32)])
      (fun t => word t 0x104#32 == 0x11223344#32) = true := by decide

theorem test_tStrhReg_tm3 :
    leads (decodeThumb 0x5288#16) (thumb 0 [(0, 0xABCD1234#32), (1, 0x100#32), (2, 0x2#32)])
      (fun t => word t 0x100#32 == 0x12340000#32) = true := by decide

theorem test_tStrbReg_tm4 :
    leads (decodeThumb 0x5488#16) (thumb 0 [(0, 0x1FF#32), (1, 0x100#32), (2, 0x3#32)])
      (fun t => byte t 0x103#32 == 0xFF#8) = true := by decide

theorem test_tLdrsbReg_tm5 :
    leads (decodeThumb 0x5688#16) (let s := thumb 0 [(1, 0x100#32), (2, 0x4#32)]; place s [(0x104#32, 0x80#32)])
      (fun t => has [(0, 0xFFFFFF80#32)] t) = true := by decide

theorem test_tLdrReg_tm6 :
    leads (decodeThumb 0x5888#16) (let s := thumb 0 [(1, 0x100#32), (2, 0x1#32)]; place s [(0x100#32, 0x44332211#32)])
      (fun t => has [(0, 0x11443322#32)] t) = true := by decide

theorem test_tLdrhReg_tm7 :
    leads (decodeThumb 0x5A88#16) (let s := thumb 0 [(1, 0x100#32), (2, 0x2#32)]; place s [(0x100#32, 0x80010000#32)])
      (fun t => has [(0, 0x8001#32)] t) = true := by decide

theorem test_tLdrbReg_tm8 :
    leads (decodeThumb 0x5C88#16) (let s := thumb 0 [(1, 0x100#32), (2, 0x3#32)]; place s [(0x100#32, 0x80000000#32)])
      (fun t => has [(0, 0x80#32)] t) = true := by decide

theorem test_tLdrshReg_tm9 :
    leads (decodeThumb 0x5E88#16) (let s := thumb 0 [(1, 0x100#32), (2, 0x2#32)]; place s [(0x100#32, 0x80010000#32)])
      (fun t => has [(0, 0xFFFF8001#32)] t) = true := by decide

theorem test_tPush_tm11 :
    leads (decodeThumb 0xB510#16) (thumb 0 [(13, 0x8000#32), (4, 0x44#32), (14, 0xEE#32)])
      (fun t => has [(13, 0x7FF8#32)] t && word t 0x7FF8#32 == 0x44#32 && word t 0x7FFC#32 == 0xEE#32) = true := by decide

theorem test_tPop_tm12 :
    leads (decodeThumb 0xBD10#16) (let s := thumb 0 [(13, 0x7FF8#32)]; place s [(0x7FF8#32, 0x5#32), (0x7FFC#32, 0x3001#32)])
      (fun t => has [(4, 0x5#32), (13, 0x8000#32)] t && nextPc t == 0x3000#32 && flagT t) = true := by decide

theorem test_tStmia_tm14 :
    leads (decodeThumb 0xC006#16) (thumb 0 [(0, 0x100#32), (1, 0x1#32), (2, 0x2#32)])
      (fun t => has [(0, 0x108#32)] t && word t 0x100#32 == 0x1#32 && word t 0x104#32 == 0x2#32) = true := by decide

theorem test_tLdmia_tm15 :
    leads (decodeThumb 0xC806#16) (let s := thumb 0 [(0, 0x100#32)]; place s [(0x100#32, 0xA#32), (0x104#32, 0xB#32)])
      (fun t => has [(1, 0xA#32), (2, 0xB#32), (0, 0x108#32)] t) = true := by decide

theorem test_tLdmia_tm16 :
    leads (decodeThumb 0xC803#16) (let s := thumb 0 [(0, 0x100#32)]; place s [(0x100#32, 0xA#32), (0x104#32, 0xB#32)])
      (fun t => has [(0, 0xA#32), (1, 0xB#32)] t) = true := by decide

theorem test_tBCond_tm18 :
    leads (decodeThumb 0xD0FE#16) (thumb 4 []) (fun t => nextPc t == 0x2000#32) = true := by decide

theorem test_tSwi_tm20 :
    leads (decodeThumb 0xDF12#16) (thumb 0 [])
      (fun t => has [(14, 0x2002#32)] t && nextPc t == 0x8#32 && t.cpsr == 0xD3#32 && t.spsrSvc == 0xF3#32) = true := by decide

theorem test_tB_tm21 : leads (decodeThumb 0xE7FE#16) (thumb 0 []) (fun t => nextPc t == 0x2000#32) = true := by decide

theorem test_tBlPrefix_tm22p :
    leads (decodeThumb 0xF000#16) (thumb 0 []) (fun t => has [(14, 0x2004#32)] t) = true := by decide

theorem test_tBlSuffix_tm22s :
    leads (decodeThumb 0xFFFE#16) (thumb 0 [(15, 0x2006#32), (14, 0x2004#32)])
      (fun t => has [(14, 0x2005#32)] t && nextPc t == 0x3000#32 && flagT t) = true := by decide

theorem test_tBlxSuffix_tm23s :
    leads (decodeThumb 0xEFFE#16) (thumb 0 [(15, 0x2006#32), (14, 0x3004#32)])
      (fun t => has [(14, 0x2005#32)] t && nextPc t == 0x4000#32 && !flagT t) = true := by decide

theorem test_tUndefBlxOdd_tm24 :
    leads (decodeThumb 0xEFFF#16) (thumb 0 [(15, 0x2006#32)])
      (fun t => has [(14, 0x2004#32)] t && curMode t == 0x1B#5) = true := by decide

theorem test_tBkpt_tm25 :
    leads (decodeThumb 0xBE01#16) (thumb 0 [])
      (fun t => has [(14, 0x2004#32)] t && nextPc t == 0xC#32 && t.cpsr == 0xD7#32) = true := by decide

theorem test_tUndefCondE_tm26 :
    leads (decodeThumb 0xDE00#16) (thumb 0 [])
      (fun t => has [(14, 0x2002#32)] t && nextPc t == 0x4#32 && t.cpsr == 0xDB#32) = true := by decide

theorem test_tUndefB1_tm27 :
    leads (decodeThumb 0xB100#16) (thumb 0 []) (fun t => curMode t == 0x1B#5) = true := by decide

/-! ### The machine around the instructions, from spec/95_test_vectors.md sections 1 and 3.10 to 3.14 -/

/-- A platform for the tests: a control byte's enable is bit 0, its disable bit 1, its priority bits 7:4. -/
def board : State :=
  { State.reset with
    params := { Config.params with
      ctlEncoding := { enableBit := 0, disableBit := 1, prioLow := 4 }, eventIds := [0, 1, 2, 3], burstMargin := 8 }
    intc := { State.reset.intc with threshold := 16 }
    sched := { slots := [0, 1, 2, 3].map EventSlot.fresh, sysTime := 0, scheduledInPass := none } }

/-- Two lines of priority 4, enabled. -/
def twoLines : State := writeCtl (writeCtl board 5 0x41#8) 2 0x41#8

/-- A state whose instruction cache is on, round robin. -/
def cached : State := place { board with ctrl := 0x55078#32 } [(0x2000#32, 0x11223344#32), (0x2004#32, 0x55667788#32)]

theorem test_jump_to_thumb_s7 : let t := jumpTo (arm 0 []) 0x1001#32
    flagT t = true ∧ reg t 15#4 = 0x1002#32 := by decide

theorem test_jump_to_arm_s7 : let t := jumpTo (thumb 0 []) 0x1002#32
    flagT t = false ∧ reg t 15#4 = 0x1004#32 := by decide

theorem test_fill_pipeline_pi5 :
    let t := fillPipeline (place (arm 0 [(15, 0x2004#32)]) [(0x2000#32, 1#32), (0x2004#32, 2#32)])
    t.slot0 = 1#32 ∧ t.slot1 = 2#32 := by decide

theorem test_step_runs_placed_word : (match step (State.reset.withFetchWord 32 0xE28F0004) with
    | .next t => reg t 0#4 == 12#32 && reg t 15#4 == 8#32
    | .fault _ => false
    | .refused _ => false) = true := by decide

theorem test_step_prefetch_pi1 :
    (match step (place (setReg { arm 0 [(0, 0xE3A01001#32)] with slot0 := 0xE50F0004#32, slot1 := 7#32 } 15#4 0x1004#32)
      [(0x1004#32, 7#32)]) with
    | .next t => word t 0x1004#32 == 0xE3A01001#32 && t.slot0 == 7#32
    | .fault _ => false
    | .refused _ => false) = true := by decide

theorem test_irq_dispatch_arm_ex1 :
    let t := dispatchIrq { setReg State.reset 15#4 0x1008#32 with cpsr := 0x10#32, irqLine := true }
    t.spsrIrq = 0x10#32 ∧ t.cpsr = 0x92#32 ∧ reg t 14#4 = 0x1008#32 ∧ nextPc t = 0x18#32 ∧ t.irqLine = false := by decide

theorem test_irq_dispatch_thumb_ex2 :
    let t := dispatchIrq { setReg State.reset 15#4 0x2006#32 with cpsr := 0x30#32, irqLine := true }
    t.spsrIrq = 0x30#32 ∧ t.cpsr = 0x92#32 ∧ reg t 14#4 = 0x2008#32 ∧ nextPc t = 0x18#32 := by decide

theorem test_irq_taken_after_msr_ex7 :
    (match step { setReg board 15#4 0x1004#32 with irqLine := true, slot0 := 0xE321F013#32 } with
    | .next t => reg t 14#4 == 0x1008#32 && curMode t == 0x12#5
    | .fault _ => false
    | .refused _ => false) = true := by decide

theorem test_soft_reset_ex9 : let t := softReset { State.reset with cpsr := 0x6000001F#32 }
    t.spsrSvc = 0x6000001F#32 ∧ t.cpsr = 0x600000D3#32 ∧ nextPc t = 0#32 := by decide

theorem test_set_irq_ic2_ic3 :
    (setIrq board 3).intc.latched = none ∧ (writeCtl (setIrq board 3) 3 0x11#8).intc.latched = some 3 ∧
      (setIrq (writeCtl board 3 0x03#8) 3).intc.pending = 0#64 := by decide

theorem test_latch_order_ic4_ic5_ic6 :
    (setIrq (setIrq twoLines 5) 2).intc.latched = some 5 ∧
      (acknowledgeIrq (setIrq (setIrq twoLines 5) 2) 16).intc.latched = some 2 ∧
      (writeCtl (acknowledgeIrq (setIrq (setIrq (acknowledgeIrq twoLines 4) 5) 2) 16) 7 0#8).intc.latched = some 2 := by
  decide

theorem test_next_wake_sc5_sc6_sc7 :
    nextWakeTime (scheduleEvent board 1 .absolute 70 1 0#32) = 70 ∧
      nextWakeTime (scheduleEvent board 1 .absolute 72 1 0#32) = 64 ∧ nextWakeTime board = 64 := by decide

theorem test_duplicate_schedule_s4 :
    let s := scheduleEvent { board with now := 100 } 1 .relative 50 1 7#32
    (scheduleEvent s 1 .relative 10 2 9#32).sched = s.sched ∧ (runSystem s 149).activity = [] ∧
      (runSystem s 150).activity = [.callback (some 1) 7#32 []] := by decide

theorem test_schedule_in_pass_sc9 :
    let s := scheduleEvent
      { board with inputs := { board.inputs with callbacks := [[.call (.sched 0 .absolute 0 3 0#32)]] } } 1 .absolute 20 1 0#32
    (runSystem s 30).activity = [.callback (some 1) 0#32 [.call (.sched 0 .absolute 0 3 0#32)]] ∧
      (runSystem (runSystem s 30) 30).activity.length = 2 := by decide

theorem test_cache_miss_then_hit_s5 :
    let t := (fetchCode cached 0x2000#32 .word false).2
    let u := fetchCode t 0x2004#32 .word true
    u.1 = 0x55667788#32 ∧ u.2.codeCycles = 1 ∧ cacheHit (cp15Write t 0x751#16 0x2000#32) 0x2000#32 = false := by decide

theorem test_stale_line_pi3 :
    let t := (fetchCode cached 0x2000#32 .word false).2
    (fetchCode (place t [(0x2000#32, 9#32)]) 0x2000#32 .word false).1 = 0x11223344#32 := by decide

theorem test_halted_burst_waits_fr2 : (execute { State.reset with halt := .indefinite, now := 10 } 64).now = 64 := by
  decide

theorem test_frame_tells_timers_the_delta_fr3 :
    (frameBody { board with halt := .indefinite, now := 10, inputs := { board.inputs with timers := [[.irq 3, .halt1]] } }).activity =
      [.timers 54 [.irq 3]] := by decide

/-- A halted block with nothing pending and no timer input hangs, and so ends no run. -/
theorem test_hang_is_no_end : Hung { board with halt := .indefinite } ∧
    ¬ ended (.frames 0) { board with halt := .indefinite } :=
  have h : Hung { board with halt := .indefinite } := hung_of_no_timers rfl rfl rfl (by decide) rfl
  ⟨h, fun e => e.2.1 h⟩

theorem test_end_at_address : ended (.at 0x1004#32 false) (arm 0 []) :=
  ⟨rfl, fun h => absurd h.halted (by decide), by decide, rfl, rfl⟩

/-! ### Witnesses: for every statement with hypotheses, a state and operands that meet them, one per clause and at the
boundaries of its ranges -/

/-- The flat memory of the tests. -/
def flat : Word × Nat := (0xFFFFFFFF#32, 0)

/-- A state in a mode, ARM, executing at 0x1000. -/
def inMode (m : BitVec 5) : State := { arm 0 [] with cpsr := m.setWidth 32 }

/-- A state in which every access of the listed address aborts. -/
def aborting (a : Word) (s : State) : State :=
  { s with params := { s.params with abortWindows :=
    [{ base := a, size := 4, bytes := true, halves := true, words := true, reads := true, writes := true }] } }

/-- A state in which every write of the listed address aborts. -/
def abortingWrites (a : Word) (s : State) : State :=
  { s with params := { s.params with abortWindows :=
    [{ base := a, size := 4, bytes := true, halves := true, words := true, reads := false, writes := true }] } }

/-- A state on a platform of one peripheral at 0x8000 to 0x8FFF and nothing else. -/
def bare : State :=
  { arm 0 [(1, 0x8002#32)] with
    params := { Config.params with regions := [{ base := 0x8000#32, size := 0x1000, kind := .device }], intcMap := [] }
    inputs := { answers := [{ value := 0x12345678#32, calls := [] }], timers := [], callbacks := [] } }

theorem test_arm_invariant : Inv (arm 0 []) where
  memory := rfl
  mode := ⟨by decide, by decide⟩
  vectors := rfl
  pc := ⟨by decide, by decide⟩
  pending := fun i _ => by show (0#64).getLsbD i = false; simp
  tags := by
    intro i v w h
    have : ∀ (i : Fin 64) (v : Fin 4), (((arm 0 []).ic.get i).lines.get v).valid = false := by decide
    rw [this i v] at h
    cases h
  events := by
    refine ⟨?_, eventIds_ascending⟩
    show (Config.eventIds.map EventSlot.fresh).map (fun e => e.id) = Config.eventIds
    simp [Function.comp_def, EventSlot.fresh]

theorem test_witness_ArmRoundTrip :
    (Instr.b 0xE#4 0xFFFFFF#24).wf = true ∧ (Instr.b 0xE#4 0xFFFFFF#24).isThumb = false ∧
      (Instr.nvSkipped 0xF000000#28).wf = true ∧ (Instr.nvSkipped 0xF000000#28).isThumb = false := by decide

theorem test_witness_ThumbRoundTrip :
    (Instr.tBCond 0xD#4 0xFF#8).wf = true ∧ (Instr.tBCond 0xD#4 0xFF#8).isThumb = true := by decide

theorem test_witness_StepKeepsInvariant : Inv (arm 0 []) ∧ ∃ t, step (arm 0 []) = .next t := ⟨test_arm_invariant, _, rfl⟩

/-- The state before the step of an ARM word at 0x1000. -/
def about (w : Word) (s : State) : State := { setReg s 15#4 0x1004#32 with slot0 := w }

theorem test_witness_StepRunsDecodedInstruction :
    let fault := about 0xE0000190#32 (arm 0 [])
    let wait := about 0xEE070F90#32 (arm 0 [])
    let irq := { about 0xE1A00000#32 (inMode 0x13#5) with irqLine := true }
    let plain := about 0xE1A00000#32 (arm 0 [])
    let narrow := { thumb 0 [] with slot0 := 0x2000#32 }
    (fault.faulted = none ∧ burstRuns fault fault ∧ flagT fault = false ∧
      exec (decodeArm fault.slot0) (advance fault) = .fault .multiplyRdRm) ∧
    (∃ t, exec (decodeArm wait.slot0) (advance wait) = .next t ∧ t.halt ≠ .none) ∧
    (∃ t, exec (decodeArm irq.slot0) (advance irq) = .next t ∧ t.halt = .none ∧ t.irqLine = true ∧ flagI t = false) ∧
    (∃ t, exec (decodeArm plain.slot0) (advance plain) = .next t ∧ t.halt = .none ∧ flagI t = true) ∧
    (flagT narrow = true ∧ ∃ t, exec (decodeThumb (narrow.slot0.setWidth 16)) (advance narrow) = .next t ∧ t.halt = .none) :=
  ⟨⟨rfl, rfl, rfl, rfl⟩, ⟨_, rfl, by decide⟩, ⟨_, rfl, rfl, rfl, rfl⟩, ⟨_, rfl, rfl, rfl⟩, rfl, _, rfl, rfl⟩

/-- The starts of a burst, and the fetch of the next instruction at the last address of the space. -/
theorem test_witness_StepRunsDecodedInstruction_starts :
    let once := { arm 0 [] with halt := .singleShot }
    let asleep := { arm 0 [] with halt := .indefinite }
    let masked := { arm 0 [] with halt := .indefinite, irqLine := true }
    let woken := { inMode 0x13#5 with halt := .indefinite, irqLine := true }
    let last := thumb 0 [(15, 0xFFFFFFFE#32)]
    burstRuns once (arm 0 []) ∧ (asleep.faulted = none ∧ asleep.halt = .indefinite ∧ asleep.irqLine = false) ∧
      (burstRuns masked { masked with halt := .none } ∧ flagI masked = true) ∧
      (burstRuns woken (dispatchIrq { woken with halt := .none }) ∧ flagI woken = false) ∧
      (cachingActive (arm 0 []) = false ∧ flatRegion (arm 0 []).params (reg (arm 0 []) 15#4 + 4#32) = some flat ∧
        (arm 0 []).thumbStale = none) ∧
      flagT last = true ∧ cachingActive last = false ∧ flatRegion last.params (reg last 15#4 + 2#32) = some flat ∧
      ({ last with thumbStale := some (0#32, 7#16) } : State).thumbStale = some (reg last 15#4 + 2#32, 7#16) :=
  ⟨rfl, ⟨rfl, rfl, rfl⟩, ⟨⟨rfl, rfl⟩, rfl⟩, ⟨⟨rfl, rfl⟩, rfl⟩, ⟨rfl, rfl, rfl⟩, rfl, rfl, rfl, rfl⟩

theorem test_witness_UserModeIsConfined :
    let s := inMode 0x10#5
    modeLegal s ∧ vectorsDerived s ∧ isUser s = true ∧ (∃ t, exec (.swi 0xE#4 0#24) s = .next t) ∧
      ∃ t, exec (.msrImm 0xE#4 false 0xF#4 0xF#4 0#4 0x1F#8) s = .next t :=
  ⟨⟨rfl, rfl⟩, rfl, rfl, ⟨_, rfl⟩, _, rfl⟩

theorem test_witness_JumpRefillsSlots :
    cachingActive (arm 0 []) = false ∧ flagT (arm 0 []) = false ∧ (0x1000#32).getLsbD 0 = false ∧
      (0x1001#32).getLsbD 0 = true ∧ flatRegion (arm 0 []).params (alignWord 0xFFFFFFFF#32) = some flat ∧
      flatRegion (arm 0 []).params (alignHalf 0#32) = some flat ∧
      flatRegion (arm 0 []).params (reg (arm 0 [(15, 0#32)]) 15#4 - 4#32) = some flat ∧
      cachingActive (thumb 0 []) = false ∧ flagT (thumb 0 []) = true ∧
      flatRegion (thumb 0 []).params (reg (thumb 0 [(15, 0#32)]) 15#4 - 2#32) = some flat ∧
      flatRegion (thumb 0 []).params (reg (thumb 0 []) 15#4) = some flat := by decide

theorem test_witness_BurstReachesTarget :
    let s := { board with halt := .indefinite, params := { board.params with frameCycles := 100 } }
    (arm 0 []).faulted = none ∧ (execute (arm 0 []) 0).faulted = none ∧
      (s.faulted = none ∧ s.halt = .indefinite ∧ s.irqLine = false ∧ (execute s 5).faulted = none ∧
        (execute s (nextWakeTime s)).faulted = none) ∧
      ∃ t, runFrame 2 s = some t ∧ t.faulted = none ∧ t.now = 128 ∧ ∀ x ∈ t.activity, x.idle = true := by
  refine ⟨rfl, rfl, ⟨rfl, rfl, rfl, rfl, rfl⟩, _, rfl, rfl, rfl, ?_⟩
  decide

theorem test_witness_SkippedInstructions :
    (Instr.b 0x0#4 0#24).armCond = some 0x0#4 ∧ checkCondition (arm 0 []) 0x0#4 = false ∧
      checkCondition (thumb 0 []) 0x0#4 = false ∧ neverRuns (.nvSkipped 0xF000000#28) = true := by decide

theorem test_witness_UnpredictableFormsFault :
    unpredictableForm (.mul 0xE#4 false 2#4 0#4 1#4 2#4) = some .multiplyRdRm ∧
      allowed (.mul 0xE#4 false 2#4 0#4 1#4 2#4) (arm 0 []) ∧
      unpredictableForm (.tBlxReg true 7#3 0#3) = some .blxPc ∧ allowed (.tBlxReg true 7#3 0#3) (thumb 0 []) :=
  ⟨rfl, fun c h => by cases h; exact rfl, rfl, fun c h => by cases h⟩

theorem test_shift_by_immediate_boundaries :
    shiftByImm 0b00#2 0x80000001#32 31#5 false = { value := 0x80000000#32, carry := false } ∧
      shiftByImm 0b01#2 0x80000001#32 31#5 false = { value := 1#32, carry := false } ∧
      shiftByImm 0b10#2 0x80000001#32 1#5 false = { value := 0xC0000000#32, carry := true } ∧
      shiftByImm 0b11#2 0x80000001#32 31#5 true = { value := 3#32, carry := false } := by decide

theorem test_shift_by_register_boundaries :
    shiftByReg 0b00#2 1#32 1 false = { value := 2#32, carry := false } ∧
      shiftByReg 0b00#2 1#32 31 false = { value := 0x80000000#32, carry := false } ∧
      shiftByReg 0b01#2 0x80000000#32 33 true = { value := 0#32, carry := false } ∧
      shiftByReg 0b10#2 0x80000000#32 32 false = { value := 0xFFFFFFFF#32, carry := true } ∧
      shiftByReg 0b11#2 0x80000001#32 255 false = { value := 3#32, carry := false } ∧
      shiftByReg 0b11#2 0x80000001#32 64 false = { value := 0x80000001#32, carry := true } := by decide

theorem test_witness_DataProcessingResult :
    passes (arm 0 []) 0xE#4 ∧
      (dpFieldsZero .add 15#4 14#4 = true ∧ operandLegal 15#4 14#4 (.immShift 31#5 3#2 15#4) = true ∧ (14#4 : Reg) ≠ 15#4) ∧
      (dpFieldsZero .cmp 14#4 0#4 = true ∧ operandLegal 14#4 0#4 (.regShift 0#4 3#2 14#4) = true ∧ dpWrites .cmp = false) ∧
      dpFieldsZero .mov 0#4 14#4 = true ∧ operandLegal 0#4 14#4 (.imm 15#4 255#8) = true :=
  ⟨rfl, ⟨rfl, rfl, by decide⟩, ⟨rfl, rfl, rfl⟩, rfl, rfl⟩

theorem test_witness_DataProcessingBranches :
    passes (arm 0 []) 0xE#4 ∧ flagT (arm 0 []) = false ∧ dpWrites .mov = true ∧ dpFieldsZero .mov 0#4 15#4 = true ∧
      operandLegal 0#4 15#4 (.imm 0#4 4#8) = true ∧
      (dpValue .mov 0#32 (operandOut (arm 0 []) (.imm 0#4 4#8)).value false).extractLsb' 0 2 = 0b00#2 ∧
      (dpValue .mov 0#32 (operandOut (arm 0 []) (.imm 0#4 3#8)).value false).extractLsb' 0 2 ≠ 0b00#2 :=
  ⟨rfl, rfl, rfl, rfl, rfl, rfl, by decide⟩

theorem test_witness_DataProcessingReturns :
    let bad := { arm 0 [] with spsrSvc := 0x14#32 }
    modeLegal (arm 0 []) ∧ passes (arm 0 []) 0xE#4 ∧ dpFieldsZero .mov 0#4 15#4 = true ∧
      operandLegal 0#4 15#4 (.immShift 0#5 0#2 14#4) = true ∧ validMode (modeOf (returnStatus bad)) = false ∧
      validMode (modeOf (returnStatus (arm 0 []))) = true ∧ (returnStatus (arm 0 [])).getLsbD 5 = false ∧
      (returnStatus { arm 0 [] with spsrSvc := 0x30#32 }).getLsbD 5 = true ∧ bankOf (curMode (inMode 0x1F#5)) = none :=
  ⟨⟨rfl, rfl⟩, rfl, rfl, rfl, rfl, rfl, rfl, rfl, rfl⟩

theorem test_witness_MrsReadsStatus :
    passes (arm 0 []) 0xE#4 ∧ (14#4 : Reg) ≠ 15#4 ∧ bankOf (curMode (arm 0 [])) = some .svc ∧
      bankOf (curMode (inMode 0x1F#5)) = none := ⟨rfl, by decide, rfl, rfl⟩

theorem test_witness_MsrWritesStatus :
    passes (arm 0 []) 0xE#4 ∧ msrLegal (.reg 14#4) = true ∧ msrLegal (.imm 0#4 0x1F#8) = true ∧
      (∀ i, i < 32 → (0x1F#32).getLsbD i = if msrTakes false 0x1#4 i then
        (msrOperand (arm 0 []) (.imm 0#4 0x1F#8)).getLsbD i else (arm 0 []).cpsr.getLsbD i) ∧
      (∀ i, i < 32 → (0x33#32).getLsbD i = if msrTakes false 0x1#4 i then
        (msrOperand (arm 0 []) (.imm 0#4 0x33#8)).getLsbD i else (arm 0 []).cpsr.getLsbD i) ∧
      (∀ i, i < 32 → (0x00#32).getLsbD i = if msrTakes false 0x1#4 i then
        (msrOperand (arm 0 []) (.imm 0#4 0#8)).getLsbD i else (arm 0 []).cpsr.getLsbD i) ∧
      (0x33#32).getLsbD 5 ≠ flagT (arm 0 []) ∧ validMode (modeOf 0x00#32) = false ∧ validMode (modeOf 0x1F#32) = true ∧
      bankOf (curMode (arm 0 [])) = some .svc ∧ bankOf (curMode (inMode 0x10#5)) = none :=
  ⟨rfl, rfl, rfl, by decide, by decide, by decide, by decide, rfl, rfl, rfl, rfl⟩

theorem test_witness_ClzCountsLeadingZeros : passes (arm 0 []) 0xE#4 ∧ (14#4 : Reg) ≠ 15#4 ∧ (0#4 : Reg) ≠ 15#4 :=
  ⟨rfl, by decide, by decide⟩

theorem test_witness_SaturatingResults :
    passes (arm 0 []) 0xE#4 ∧ (14#4 : Reg) ≠ 15#4 ∧ clamp32 (2 ^ 31) = 2 ^ 31 - 1 ∧ clamp32 (-(2 ^ 31) - 1) = -(2 ^ 31) ∧
      outside32 (2 ^ 31 - 1) = false := ⟨rfl, by decide, by decide, by decide, by decide⟩

theorem test_witness_MultiplyResults :
    passes (arm 0 []) 0xE#4 ∧ ((14#4 : Reg) ≠ 15#4 ∧ (14#4 : Reg) ≠ 13#4) ∧
      firstOf (longCases 14#4 13#4 12#4 12#4) = none ∧ firstOf (longCases 14#4 13#4 13#4 12#4) = none :=
  ⟨rfl, by decide, rfl, rfl⟩

theorem test_witness_DspMultiplyResults :
    passes (arm 0 []) 0xE#4 ∧ ((14#4 : Reg) ≠ 15#4 ∧ (0#4 : Reg) ≠ 14#4) ∧ halfInt 0x7FFF8000#32 false = -(2 ^ 15) ∧
      halfInt 0x7FFF8000#32 true = 2 ^ 15 - 1 := ⟨rfl, by decide, by decide, by decide⟩

theorem test_witness_LoadWordByte :
    passes (arm 0 []) 0xE#4 ∧ mode2Legal (.pre true) 14#4 0#4 (.reg 31#5 3#2 13#4) = true ∧
      mode2Legal (.pre false) 15#4 0#4 (.imm 0xFFF#12) = true ∧ mode2Legal .translated 1#4 0#4 (.imm 0#12) = true ∧
      flatAccess (arm 0 []) flat (alignWord 0xFFFFFFFF#32) .word false ∧
      flatAccess (arm 0 []) flat 0xFFFFFFFF#32 .byte false :=
  ⟨rfl, rfl, rfl, rfl, ⟨rfl, rfl⟩, rfl, rfl⟩

theorem test_witness_LoadWordToPc :
    let s := place (arm 0 [(1, 0x3000#32), (2, 0x3003#32)]) [(0x3000#32, 0x2002#32)]
    let a := (mode2Addr s (.pre false) true 1#4 (.imm 0#12)).address
    let b := (mode2Addr s (.pre false) true 2#4 (.imm 0#12)).address
    passes s 0xE#4 ∧ mode2Legal (.pre false) 1#4 15#4 (.imm 0#12) = true ∧ Index2.pre false ≠ .translated ∧
      flatAccess s flat (alignWord a) .word false ∧ a.extractLsb' 0 2 = 0b00#2 ∧
      (word4At s flat a).extractLsb' 0 2 = 0b10#2 ∧ (word4At (arm 0 []) flat a).extractLsb' 0 2 ≠ 0b10#2 ∧
      b.extractLsb' 0 2 ≠ 0b00#2 :=
  ⟨rfl, rfl, by decide, ⟨rfl, rfl⟩, rfl, rfl, by decide, by decide⟩

theorem test_witness_StoreWordByte :
    passes (arm 0 []) 0xE#4 ∧ memoryCanonical (arm 0 []) ∧ mode2Legal (.pre false) 1#4 15#4 (.imm 0#12) = true ∧
      mode2Legal .post 1#4 0#4 (.imm 4#12) = true ∧ flatAccess (arm 0 []) flat (alignWord 0xFFFFFFFF#32) .word true ∧
      distinctBytes flat 0xFFFFFFFC#32 4 ∧ flatAccess (arm 0 []) flat 0xFFFFFFFF#32 .byte true :=
  ⟨rfl, rfl, rfl, rfl, ⟨rfl, rfl⟩, by unfold distinctBytes; decide, rfl, rfl⟩

theorem test_witness_DataAbortTaken :
    let s := aborting 0#32 (arm 0 [])
    let d := aborting 4#32 (arm 0 [])
    let w := abortingWrites 0#32 (arm 0 [])
    let t := aborting 0#32 (thumb 0 [])
    let y := Single.mode2 .ldr (.pre true) true (.imm 0#12)
    let z := Single.mode3 .strh true true false (.imm 0#4 0#4)
    (passes s 0xE#4 ∧ vectorsDerived s ∧ memoryCanonical d) ∧
      (singleLegal y 1#4 15#4 = true ∧ (singleAddr s y 1#4).address = 0#32 ∧
        busAbort s.params (accessAddr .word 0#32) (singleWidth y) (singleStores y) = true) ∧
      (singleLegal z 1#4 0#4 = true ∧ (singleAddr s z 1#4).address = 0#32 ∧ oddHalf (singleWidth z) 0#32 = false ∧
        busAbort s.params (accessAddr .half 0#32) (singleWidth z) (singleStores z) = true) ∧
      (mode3Legal true false 1#4 2#4 (.imm 0#4 0#4) = true ∧ pairLegal true true false 1#4 2#4 (.imm 0#4 0#4) = true ∧
        pairLegal false true false 1#4 2#4 (.imm 0#4 0#4) = true ∧
        (mode3Addr d true true false 1#4 (.imm 0#4 0#4)).address = 0#32) ∧
      (busAbort s.params 0#32 .word false = true ∧ busAbort s.params 0#32 .word true = true) ∧
      (flatAccess d flat 0#32 .word false ∧ flatAccess d flat 0#32 .word true ∧ distinctBytes flat 0#32 4 ∧
        busAbort d.params 4#32 .word false = true ∧ busAbort d.params 4#32 .word true = true) ∧
      (firstOf (swapCases 1#4 2#4 0#4 3#4) = none ∧ flatAccess w flat 0#32 .word false ∧
        busAbort w.params 0#32 .word true = true ∧ flatAccess w flat 0#32 .byte false ∧
        busAbort w.params 0#32 .byte true = true) ∧
      passes t 0xE#4 ∧ vectorsDerived t ∧ thumbLoad t (.tLdrshReg 0#3 1#3 2#3) = some (2#4, 0#32, .signedHalf) ∧
      oddHalf .half 0#32 = false ∧ busAbort t.params 0#32 .half false = true ∧
      thumbStore t (.tStrSp 0#3 0#8) = some (0#4, 0#32, .word) ∧ busAbort t.params 0#32 .word true = true :=
  ⟨⟨rfl, rfl, rfl⟩, ⟨rfl, rfl, rfl⟩, ⟨rfl, rfl, rfl, rfl⟩, ⟨rfl, rfl, rfl, rfl⟩, ⟨rfl, rfl⟩,
    ⟨⟨rfl, rfl⟩, ⟨rfl, rfl⟩, by unfold distinctBytes; decide, rfl, rfl⟩, ⟨rfl, ⟨rfl, rfl⟩, rfl, ⟨rfl, rfl⟩, rfl⟩, rfl, rfl,
    rfl, rfl, rfl, rfl, rfl⟩

/-- The first access aborts (`j = 0`) and the second does (`j = 1`), in each form. -/
theorem test_witness_MultipleAborts :
    let s := aborting 0x3004#32 (arm 0 [(0, 0x3000#32)])
    let q := aborting 0x3004#32 { arm 0 [(0, 0x3000#32)] with cpsr := 0x12#32 }
    let t := aborting 0x3004#32 (thumb 0 [(0, 0x3000#32)])
    let u := aborting 0x3004#32 (thumb 0 [(13, 0x3000#32)])
    let v := aborting 0x3004#32 (thumb 0 [(13, 0x3008#32)])
    (passes s 0xE#4 ∧ vectorsDerived s ∧ modeLegal s ∧ memoryCanonical s) ∧
      (unpredictableForm (.ldm1 0xE#4 false true true 0#4 6#16) = none ∧
        unpredictableForm (.stm1 0xE#4 false true true 0#4 6#16) = none ∧
        unpredictableForm (.stm2 0xE#4 false true false 0#4 6#16) = none ∧ 1 < popcount (6#16) ∧
        unpredictableForm (.ldm3 0xE#4 false true true 0#4 2#15) = none ∧ 1 < popcount (0b1#1 ++ 2#15) ∧
        unpredictableForm (.ldm2 0xE#4 false true false 0#4 6#15) = none ∧ 1 < popcount (0b0#1 ++ 6#15)) ∧
      (multipleStart s false true 0#4 2 = 0x3000#32 ∧ multipleStart q false true 0#4 2 = 0x3000#32 ∧
        (bankOf (curMode s)).isSome = true ∧ bankOf (curMode q) = some .irq) ∧
      (wordsReadable s 0x3000#32 1 ∧ wordsReadable q 0x3000#32 1 ∧ wordsWritable s flat 0x3000#32 1) ∧
      (busAbort s.params (0x3000#32 + BitVec.ofNat 32 (4 * 1)) .word false = true ∧
        busAbort s.params (0x3000#32 + BitVec.ofNat 32 (4 * 1)) .word true = true ∧ wordsReadable s 0x3004#32 0 ∧
        wordsWritable s flat 0x3004#32 0 ∧ busAbort s.params (0x3004#32 + BitVec.ofNat 32 (4 * 0)) .word true = true) ∧
      unpredictableForm (.tPush true 1#8) = none ∧ alignWord (reg v 13#4 - BitVec.ofNat 32 (4 * 2)) = 0x3000#32 ∧
      unpredictableForm (.tPop true 1#8) = none ∧ alignWord (reg u 13#4) = 0x3000#32 ∧
      unpredictableForm (.tStmia 0#3 3#8) = none ∧ unpredictableForm (.tLdmia 0#3 3#8) = none ∧
      alignWord (low t 0#3) = 0x3000#32 := by
  have one : ∀ {s : State} {P : Nat → Prop}, P 0 → ∀ j, j < 1 → P j := by
    intro _ P h j hj
    obtain rfl : j = 0 := Nat.lt_one_iff.mp hj
    exact h
  exact ⟨⟨rfl, rfl, ⟨rfl, rfl⟩, rfl⟩, ⟨rfl, rfl, rfl, by decide, rfl, by decide, rfl, by decide⟩, ⟨rfl, rfl, rfl, rfl⟩,
    ⟨one (s := arm 0 []) ⟨flat, rfl, rfl⟩, one (s := arm 0 []) ⟨flat, rfl, rfl⟩, one (s := arm 0 []) ⟨rfl, rfl⟩, by decide⟩,
    ⟨rfl, rfl, fun _ h => absurd h (Nat.not_lt_zero _), ⟨fun _ h => absurd h (Nat.not_lt_zero _), by decide⟩, rfl⟩,
    rfl, rfl, rfl, rfl, rfl, rfl, rfl⟩

theorem test_witness_OtherAccesses :
    let off := Offset2.imm 0#12
    let zero := Offset3.imm 0#4 0#4
    let forms := [Single.mode2 .ldr (.pre false) true off, .mode2 .ldrb .post true off, .mode2 .str (.pre true) true off,
      .mode2 .strb .translated true off, .mode3 .ldrh true true false zero, .mode3 .ldrsb true true true zero,
      .mode3 .ldrsh false true false zero, .mode3 .strh true true false zero]
    let met (y : Single) (rn : Reg) (device : Bool) : Bool :=
      let n := singleWidth y
      let a := (singleAddr bare y rn).address
      let b := accessAddr n a
      singleLegal y rn 0#4 && !oddHalf n a && flatRegion bare.params b == none &&
        !busAbort bare.params b n (singleStores y) && isDevice bare.params b == device
    passes bare 0xE#4 ∧ bare.params.intcMap = [] ∧ (∀ y ∈ forms, met y 1#4 true = true) ∧ (∀ y ∈ forms, met y 2#4 false = true) ∧
      bare.inputs.answers = { value := 0x12345678#32, calls := [] } :: [] := ⟨rfl, rfl, by decide, by decide, rfl⟩

theorem test_witness_HalfAndSignedTransfers :
    let s := arm 0 [(1, 0xFFFFFFFE#32), (2, 0x3001#32)]
    let a := (mode3Addr s true true false 1#4 (.imm 0#4 0#4)).address
    passes s 0xE#4 ∧ mode3Legal true false 1#4 0#4 (.imm 0#4 0#4) = true ∧
      mode3Legal false false 1#4 0#4 (.reg 0#4 14#4) = true ∧ oddHalf (loadWidth .half) a = false ∧
      flatAccess s flat a .half false ∧ flatAccess s flat a .byte false ∧ memoryCanonical s ∧
      flatAccess s flat a .half true ∧ distinctBytes flat a 2 ∧
      oddHalf (loadWidth .half) (mode3Addr s true true false 2#4 (.imm 0#4 0#4)).address = true :=
  ⟨rfl, rfl, rfl, rfl, ⟨rfl, rfl⟩, ⟨rfl, rfl⟩, rfl, ⟨rfl, rfl⟩, by unfold distinctBytes; decide, rfl⟩

theorem test_witness_DoubleTransfers :
    let s := arm 0 [(1, 0x3000#32), (2, 0x3004#32)]
    let a := (mode3Addr s true true false 1#4 (.imm 0#4 0#4)).address
    passes s 0xE#4 ∧ mode3Legal true false 1#4 12#4 (.imm 0#4 0#4) = true ∧
      pairLegal true true false 1#4 12#4 (.imm 0#4 0#4) = true ∧ pairLegal false true false 1#4 0#4 (.imm 0#4 0#4) = true ∧
      a.extractLsb' 0 3 = 0#3 ∧ wordsReadable s a 2 ∧ memoryCanonical s ∧ wordsWritable s flat a 2 ∧
      (mode3Addr s true true false 2#4 (.imm 0#4 0#4)).address.extractLsb' 0 3 ≠ 0#3 := by
  refine ⟨rfl, rfl, rfl, rfl, rfl, ?_, rfl, ⟨?_, by decide⟩, by decide⟩
  · intro j hj
    obtain rfl | rfl : j = 0 ∨ j = 1 := by omega
    · exact ⟨flat, rfl, rfl⟩
    · exact ⟨flat, rfl, rfl⟩
  · intro j hj
    obtain rfl | rfl : j = 0 ∨ j = 1 := by omega
    · exact ⟨rfl, rfl⟩
    · exact ⟨rfl, rfl⟩

theorem test_witness_OperandFormsStop :
    passes (arm 0 []) 0xE#4 ∧ dpFieldsZero .cmp 1#4 1#4 = false ∧
      (dpFieldsZero .mov 0#4 1#4 = true ∧ operandLegal 0#4 1#4 (.regShift 15#4 0#2 1#4) = false) ∧
      mode2Legal .post 1#4 1#4 (.imm 0#12) = false ∧ mode3Legal false true 1#4 0#4 (.imm 0#4 0#4) = false ∧
      pairLegal true true false 1#4 14#4 (.imm 0#4 0#4) = false ∧
      pairLegal false true false 1#4 1#4 (.imm 0#4 0#4) = false := ⟨rfl, rfl, ⟨rfl, rfl⟩, rfl, rfl, rfl, rfl⟩

theorem test_witness_LoadMultiple :
    let s := arm 0 [(0, 0x3000#32)]
    let k (l : BitVec 16) : Prop := unpredictableForm (.ldm1 0xE#4 false true true 0#4 l) = none ∧
      wordsReadable s (multipleStart s false true 0#4 (popcount l)) (popcount l)
    passes s 0xE#4 ∧ (k 0x8000#16 ∧ (0x8000#16).getLsbD 15 = true) ∧ k 0x4000#16 ∧ (0x4000#16).getLsbD 15 = false := by
  refine ⟨rfl, ⟨⟨rfl, ?_⟩, rfl⟩, ⟨rfl, ?_⟩, rfl⟩
  · intro j hj
    obtain rfl : j = 0 := Nat.lt_one_iff.mp hj
    exact ⟨flat, rfl, rfl⟩
  · intro j hj
    obtain rfl : j = 0 := Nat.lt_one_iff.mp hj
    exact ⟨flat, rfl, rfl⟩

theorem test_witness_LoadMultipleUser :
    let s := inMode 0x12#5
    passes s 0xE#4 ∧ modeLegal s ∧ unpredictableForm (.ldm2 0xE#4 false true false 0#4 0x4000#15) = none ∧
      bankOf (curMode s) = some .irq ∧ wordsReadable s (multipleStart s false true 0#4 1) 1 ∧
      modeLegal (inMode 0x1F#5) ∧ bankOf (curMode (inMode 0x1F#5)) = none := by
  refine ⟨rfl, ⟨rfl, rfl⟩, rfl, rfl, ?_, ⟨rfl, rfl⟩, rfl⟩
  intro j hj
  obtain rfl : j = 0 := Nat.lt_one_iff.mp hj
  exact ⟨flat, rfl, rfl⟩

theorem test_witness_LoadMultipleReturns :
    let s := arm 0 [(0, 0x3000#32)]
    passes s 0xE#4 ∧ modeLegal s ∧ unpredictableForm (.ldm3 0xE#4 false true true 0#4 0#15) = none ∧
      wordsReadable s (multipleStart s false true 0#4 1) 1 := by
  refine ⟨rfl, ⟨rfl, rfl⟩, rfl, ?_⟩
  intro j hj
  obtain rfl : j = 0 := Nat.lt_one_iff.mp hj
  exact ⟨flat, rfl, rfl⟩

theorem test_witness_StoreMultiple :
    let s := arm 0 [(0, 0x3000#32)]
    let a := multipleStart s false true 0#4 1
    passes s 0xE#4 ∧ memoryCanonical s ∧ modeLegal s ∧ unpredictableForm (.stm1 0xE#4 false true true 0#4 0x8000#16) = none ∧
      unpredictableForm (.stm2 0xE#4 false true false 0#4 0x8000#16) = none ∧ wordsWritable s flat a 1 ∧
      bankOf (curMode s) = some .svc ∧ bankOf (curMode (inMode 0x10#5)) = none := by
  refine ⟨rfl, rfl, ⟨rfl, rfl⟩, rfl, rfl, ⟨?_, by decide⟩, rfl, rfl⟩
  intro j hj
  obtain rfl : j = 0 := Nat.lt_one_iff.mp hj
  exact ⟨rfl, rfl⟩

theorem test_witness_SwapResults :
    let s := arm 0 [(2, 0xFFFFFFFF#32)]
    passes s 0xE#4 ∧ memoryCanonical s ∧ firstOf (swapCases 2#4 0#4 0#4 0#4) = none ∧
      flatAccess s flat (alignWord (reg s 2#4)) .word false ∧ flatAccess s flat (alignWord (reg s 2#4)) .word true ∧
      distinctBytes flat (alignWord (reg s 2#4)) 4 ∧ flatAccess s flat (reg s 2#4) .byte false ∧
      flatAccess s flat (reg s 2#4) .byte true :=
  ⟨rfl, rfl, rfl, ⟨rfl, rfl⟩, ⟨rfl, rfl⟩, by unfold distinctBytes; decide, ⟨rfl, rfl⟩, rfl, rfl⟩

theorem test_witness_Branches : pcAligned (arm 0 []) ∧ flagT (arm 0 []) = false ∧ passes (arm 0 []) 0xE#4 :=
  ⟨⟨rfl, fun _ => rfl⟩, rfl, rfl⟩

theorem test_witness_BranchExchanges :
    let s := arm 0 [(0, 0x2002#32), (1, 0x2003#32)]
    passes s 0xE#4 ∧ flagT s = false ∧ (14#4 : Reg) ≠ 15#4 ∧ (reg s 0#4).extractLsb' 0 2 = 0b10#2 ∧
      (reg s 1#4).extractLsb' 0 2 ≠ 0b10#2 := ⟨rfl, rfl, by decide, rfl, by decide⟩

theorem test_witness_RaisingInstructions :
    alwaysRaises (.bkpt 0xE#4 0#12 0#4) = some .prefetchAbort ∧ allowed (.bkpt 0xE#4 0#12 0#4) (arm 0 []) ∧
      vectorsDerived (arm 0 []) ∧ alwaysRaises (.tSwi 0xFF#8) = some .softwareInterrupt ∧
      allowed (.tSwi 0xFF#8) (thumb 0 []) ∧ vectorsDerived (thumb 0 []) :=
  ⟨rfl, fun c h => by cases h; exact rfl, rfl, rfl, fun c h => (by cases h), rfl⟩

theorem test_witness_ExceptionEntry :
    vectorsDerived (arm 0 []) ∧ vectorsDerived { arm 0 [] with ctrl := 0x2000#32, exceptionBase := 0xFFFF0000#32 } :=
  ⟨rfl, rfl⟩

theorem test_witness_McrWritesCp15 :
    passes (arm 0 []) 0xE#4 ∧ vectorsDerived (arm 0 []) ∧ isUser (arm 0 []) = false ∧ isUser (inMode 0x10#5) = true ∧
      vectorsDerived (inMode 0x10#5) ∧ passes (inMode 0x10#5) 0xE#4 :=
  ⟨rfl, rfl, rfl, rfl, rfl, rfl⟩

theorem test_witness_MrcReadsCp15 :
    passes (arm 0 []) 0xE#4 ∧ vectorsDerived (arm 0 []) ∧ isUser (arm 0 []) = false ∧ (14#4 : Reg) ≠ 15#4 :=
  ⟨rfl, rfl, rfl, by decide⟩

theorem test_witness_ThumbDataProcessing :
    (thumbResult (thumb 0 []) (.tMul 0#3 7#3)).isSome = true ∧
      (thumbResult (thumb 0 []) (.tCmpHi true false 7#3 7#3)).isSome = true ∧
      (thumbResult (thumb 0 []) (.tLslImm 0#5 7#3 0#3)).isSome = true := ⟨rfl, rfl, rfl⟩

theorem test_witness_ThumbMoves :
    flagT (thumb 0 []) = true ∧ thumbMove (thumb 0 []) (.tMovHi true false 0#3 6#3) = some (14#4, 0#32) ∧
      thumbMove (thumb 0 []) (.tAddPc 7#3 0#8) = some (7#4, 0x2004#32) := ⟨rfl, rfl, rfl⟩

theorem test_witness_ThumbBranches :
    flagT (thumb 0 []) = true ∧ thumbJump (thumb 0 []) (.tB 0x7FE#11) = some (0x2000#32, none) ∧
      thumbJump (thumb 0 []) (.tBlSuffix 0#11) = some (0#32, some 0x2003#32) ∧ passes (thumb 4 []) 0x0#4 ∧
      hiReg true 7#3 = 15#4 ∧ hiReg true 6#3 ≠ 15#4 ∧
      (reg (thumb 0 []) (hiReg true 6#3)).extractLsb' 0 2 ≠ 0b10#2 ∧
      (reg (thumb 0 [(14, 2#32)]) (hiReg true 6#3)).extractLsb' 0 2 = 0b10#2 :=
  ⟨rfl, rfl, rfl, rfl, rfl, by decide, by decide, rfl⟩

theorem test_witness_ThumbLoads :
    thumbLoad (thumb 0 [(1, 0x3001#32)]) (.tLdrhImm 0#5 1#3 0#3) = some (0#4, 0x3001#32, .half) ∧
      oddHalf (loadWidth .half) 0x3001#32 = true ∧ oddHalf (loadWidth .word) 0x3001#32 = false ∧
      flatAccess (thumb 0 []) flat (accessAddr .word 0x3001#32) .word false ∧
      thumbLoad (thumb 0 [(1, 0x3001#32)]) (.tLdrImm 0#5 1#3 0#3) = some (0#4, 0x3001#32, .word) :=
  ⟨rfl, rfl, rfl, ⟨rfl, rfl⟩, rfl⟩

theorem test_witness_ThumbStores :
    memoryCanonical (thumb 0 []) ∧
      thumbStore (thumb 0 [(1, 0x3001#32)]) (.tStrhImm 0#5 1#3 0#3) = some (0#4, 0x3001#32, .half) ∧
      oddHalf .half 0x3001#32 = true ∧ oddHalf .half 0xFFFFFFFE#32 = false ∧
      flatAccess (thumb 0 []) flat (accessAddr .half 0xFFFFFFFE#32) .half true ∧ distinctBytes flat 0xFFFFFFFE#32 2 :=
  ⟨rfl, rfl, rfl, rfl, ⟨rfl, rfl⟩, by unfold distinctBytes; decide⟩

theorem test_witness_ThumbStoreMultiple :
    let s := thumb 0 [(0, 0x3000#32), (13, 4#32)]
    memoryCanonical s ∧ unpredictableForm (.tPush true 0#8) = none ∧ wordsWritable s flat (alignWord (reg s 13#4 - 4#32)) 1 ∧
      unpredictableForm (.tStmia 0#3 1#8) = none ∧ wordsWritable s flat (alignWord (low s 0#3)) 1 := by
  refine ⟨rfl, rfl, ⟨?_, by decide⟩, rfl, ⟨?_, by decide⟩⟩
  · intro j hj
    obtain rfl : j = 0 := Nat.lt_one_iff.mp hj
    exact ⟨rfl, rfl⟩
  · intro j hj
    obtain rfl : j = 0 := Nat.lt_one_iff.mp hj
    exact ⟨rfl, rfl⟩

theorem test_witness_ThumbLoadMultiple :
    let s := thumb 0 [(0, 0x3000#32)]
    unpredictableForm (.tPop true 0#8) = none ∧ unpredictableForm (.tPop false 0x80#8) = none ∧
      wordsReadable s (alignWord (reg s 13#4)) 1 ∧ unpredictableForm (.tLdmia 0#3 1#8) = none ∧
      wordsReadable s (alignWord (low s 0#3)) 1 ∧ (2#8).getLsbD (0#3).toNat = false := by
  refine ⟨rfl, rfl, ?_, rfl, ?_, rfl⟩
  · intro j hj
    obtain rfl : j = 0 := Nat.lt_one_iff.mp hj
    exact ⟨flat, rfl, rfl⟩
  · intro j hj
    obtain rfl : j = 0 := Nat.lt_one_iff.mp hj
    exact ⟨flat, rfl, rfl⟩

theorem test_witness_ModesKeepTheirRegisters : (14#4 : Reg) ≠ 15#4 ∧ (8#4 : Reg) ≠ 15#4 := by decide

theorem test_witness_MixedWidthMemory :
    Memory.wf [(1, 2#8)] = true ∧ distinctBytes flat 0xFFFFFFFE#32 4 := ⟨rfl, by unfold distinctBytes; decide⟩

theorem test_witness_CacheMissThenHit :
    let drawn := { cached with ctrl := 0x51078#32 }
    cachingActive cached = true ∧ cacheHit cached 0xFFFFFFFF#32 = false ∧
      flatRegion cached.params (lineBase 0xFFFFFFFF#32) = some flat ∧ lineBase 0xFFFFFFE0#32 = lineBase 0xFFFFFFFF#32 ∧
      cached.ctrl.getLsbD 14 = true ∧ drawn.ctrl.getLsbD 14 = false ∧ cachingActive drawn = true ∧
      cacheHit drawn 0xFFFFFFFF#32 = false := by decide

theorem test_witness_ControllerOperations :
    board.intc.latched = none ∧ (setIrq twoLines 5).intc.latched = some 5 ∧ (updateIrq board).intc.latched = none ∧
      ctlDisable board.params.ctlEncoding (board.intc.ctl.get 39) = false ∧
      ctlDisable board.params.ctlEncoding ((writeCtl board 39 3#8).intc.ctl.get 39) = true := by decide

theorem test_witness_SchedulerOperations :
    let s := scheduleEvent board 1 .absolute 71 1 0#32
    eventSlot s 9 = none ∧ (eventSlot s 1).map (fun e => e.pending) = some true ∧
      (eventSlot s 2).map (fun e => e.pending) = some false ∧ (∃ e ∈ s.sched.slots, e.pending = true ∧ e.time < 72) ∧
      ∀ e ∈ board.sched.slots, e.pending = true → 72 ≤ e.time := by decide

theorem test_witness_RunSystemFiresDueEvents :
    let s := scheduleEvent (scheduleEvent board 1 .absolute 20 1 0#32) 3 .absolute 20 2 0#32
    let e : EventSlot := { id := 1, pending := true, time := 20, cb := some 1, param := 0#32 }
    let d : EventSlot := { id := 3, pending := true, time := 20, cb := some 2, param := 0#32 }
    (s.sched.slots.map (fun e => e.id) = s.params.eventIds ∧ s.params.eventIds.Pairwise (· < ·)) ∧
      s.inputs.callbacks = [] ∧ s.sched.slots.filter (due 20) = [] ++ e :: [d] ∧
      s.sched.slots.filter (due 20) = [e] ++ d :: [] := by decide

theorem test_witness_CoreResetState :
    board.params.resetPc.getLsbD 0 = false ∧
      ({ board with params := { board.params with resetPc := 0x101#32 } } : State).params.resetPc.getLsbD 0 = true := by
  decide

end Sys2Proof.Tests
end

section
/-! PROOFS. What a bus access, a code fetch and a jump keep of the invariant (spec/10_state.md R111, R126, R135, R140;
spec/20_memory.md R231, R247; spec/40_pipeline.md R405, R410). -/

namespace Sys2Proof.Machine

open Sys2Proof

/-! ### The controller and the scheduler under a collaborator's calls -/

/-- What an operation keeps of the part of the invariant that lies in the interrupt controller and the scheduler. -/
structure DevicesSafe (s t : State) : Prop where
  pending : pendingBounded s → pendingBounded t
  ids : slotIds t = slotIds s

theorem DevicesSafe.refl (s : State) : DevicesSafe s s := ⟨id, rfl⟩

theorem DevicesSafe.trans {s t u : State} (h : DevicesSafe s t) (g : DevicesSafe t u) : DevicesSafe s u :=
  ⟨g.pending ∘ h.pending, g.ids.trans h.ids⟩

/-- An operation that leaves both devices alone. -/
theorem DevicesSafe.of_eq {s t : State} (hi : t.intc = s.intc) (hs : t.sched = s.sched) : DevicesSafe s t :=
  ⟨fun h => by unfold pendingBounded; rw [hi]; exact h, by unfold slotIds; rw [hs]⟩

theorem updateIrq_pending (s : State) : (updateIrq s).intc.pending = s.intc.pending := by
  unfold updateIrq
  split
  · rfl
  · split <;> rfl

/-- The controller's latching leaves the pending lines alone (R1202). -/
theorem pendingBounded_updateIrq {s : State} (h : pendingBounded s) : pendingBounded (updateIrq s) := by
  unfold pendingBounded
  rw [updateIrq_pending]
  exact h

/-- A line is bounded by 40 before it is set (R1201, D42). -/
theorem pendingBounded_setIrq {s : State} (l : Nat) (h : pendingBounded s) : pendingBounded (setIrq s l) := by
  unfold setIrq
  split
  next hl =>
    split
    · exact h
    · refine pendingBounded_updateIrq fun i hi => ?_
      rw [getLsbD_setBit, if_neg (by omega)]
      exact h i hi
  · exact h

theorem pendingBounded_acknowledgeIrq {s : State} (t : Nat) (h : pendingBounded s) :
    pendingBounded (acknowledgeIrq s t) := by
  unfold acknowledgeIrq
  split
  · exact h
  · refine pendingBounded_updateIrq fun i hi => ?_
    rw [getLsbD_setBit]
    split
    · rfl
    · exact h i hi

theorem pendingBounded_writeCtl {s : State} (l : Nat) (b : Byte) (h : pendingBounded s) :
    pendingBounded (writeCtl s l b) := by
  unfold writeCtl
  split
  · exact pendingBounded_updateIrq h
  · exact h

theorem scheduleEvent_intc (s : State) (id : Nat) (k : EventKind) (d cb : Nat) (p : Word) :
    (scheduleEvent s id k d cb p).intc = s.intc := by
  unfold scheduleEvent
  split
  · rfl
  · split <;> rfl

theorem runCall_devicesSafe (s : State) (c : Call) : DevicesSafe s (runCall s c) := by
  refine ⟨fun h => ?_, runCall_ids s c⟩
  cases c with
  | irq l => exact pendingBounded_setIrq l h
  | ack t => exact pendingBounded_acknowledgeIrq t h
  | ctl l b => exact pendingBounded_writeCtl l b h
  | sched id k d cb p =>
    unfold pendingBounded
    rw [runCall, scheduleEvent_intc]
    exact h
  | cancel id => exact h
  | halt1 => exact h

theorem runCalls_devicesSafe (s : State) (l : List Call) : DevicesSafe s (runCalls s l) := by
  induction l generalizing s with
  | nil => exact .refl s
  | cons c r ih => exact (runCall_devicesSafe s c).trans (ih _)

theorem takeAnswer_devicesSafe (s : State) (a : Word) (n : Nat) : DevicesSafe s (takeAnswer s a n).2 := by
  unfold takeAnswer
  split <;> exact .of_eq rfl rfl

theorem deviceReadOp_devicesSafe (s : State) (a : Word) (n : Nat) : DevicesSafe s (deviceReadOp s a n).2 := by
  refine ((takeAnswer_devicesSafe s a n).trans ?_).trans (runCalls_devicesSafe _ _)
  exact .of_eq rfl rfl

theorem deviceWriteOp_devicesSafe (s : State) (a : Word) (n : Nat) (v : Word) :
    DevicesSafe s (deviceWriteOp s a n v) := by
  refine ((takeAnswer_devicesSafe s a n).trans ?_).trans (runCalls_devicesSafe _ _)
  exact .of_eq rfl rfl

theorem busRead_devicesSafe (s : State) (a : Word) (n : Nat) : DevicesSafe s (busRead s a n).2 := by
  unfold busRead
  split
  · exact .refl s
  · split
    · exact .refl s
    · split
      · exact deviceReadOp_devicesSafe s a n
      · exact .refl s

theorem intcWriteAt_devicesSafe {s t : State} {a v : Word} (h : intcWriteAt s a v = some t) : DevicesSafe s t := by
  refine ⟨fun hp => ?_, intcWriteAt_ids h⟩
  obtain ⟨r, _, hr⟩ := List.exists_of_findSome?_eq_some h
  split at hr
  · cases hport : r.port <;> simp only [hport, intcWrite, Option.some.injEq, reduceCtorEq] at hr <;> subst hr
    · exact pendingBounded_setIrq _ hp
    · exact pendingBounded_acknowledgeIrq _ hp
    · exact pendingBounded_writeCtl _ _ hp
  · cases hr

theorem busWrite_devicesSafe (s : State) (a : Word) (n : Nat) (v : Word) : DevicesSafe s (busWrite s a n v) := by
  unfold busWrite
  split
  · exact .of_eq rfl rfl
  · split
    next h => exact intcWriteAt_devicesSafe h
    next =>
      split
      · exact deviceWriteOp_devicesSafe s a n v
      · exact .refl s

/-! ### The instruction cache (R241-R247) -/

theorem victimWay_devicesSafe (s : State) (i : Fin 64) : DevicesSafe s (victimWay s i).2 :=
  .of_eq (victimWay_devices s i).intc (victimWay_devices s i).sched

/-- The choice of a victim changes no line (R243). -/
theorem victimWay_lines (s : State) (i x : Fin 64) : ((victimWay s i).2.ic.get x).lines = (s.ic.get x).lines := by
  unfold victimWay
  dsimp only
  split
  · rw [setCacheSet_get]
    split
    next h => rw [h]
    · rfl
  · rfl

theorem busFill_devicesSafe (n : Nat) (s : State) (a : Word) : DevicesSafe s (busFill n s a).2 := by
  induction n generalizing s a with
  | zero => exact .refl s
  | succ n ih => exact (busRead_devicesSafe s a 1).trans (ih _ _)

theorem lineFill_devicesSafe (s : State) (b : Word) : DevicesSafe s (lineFill s b).2 := by
  unfold lineFill
  split
  · exact .refl s
  · dsimp only
    exact busFill_devicesSafe 32 s b

theorem tagsDistinct_congr {s t : State} (h : ∀ i, (t.ic.get i).lines = (s.ic.get i).lines) (hs : tagsDistinct s) :
    tagsDistinct t := fun i v w => by
  rw [h i]
  exact hs i v w

/-- A line whose tag no valid way of its set has may be installed in any way (R242, R247). -/
theorem tagsDistinct_installLine {s : State} (h : tagsDistinct s) (i : Fin 64) (w : Fin 4) (l : CacheLine)
    (hl : hitWay (s.ic.get i) l.tag = none) : tagsDistinct (installLine s i w l) := by
  have miss : ∀ v, ((s.ic.get i).lines.get v).valid = true → ((s.ic.get i).lines.get v).tag ≠ l.tag := fun v hv ht => by
    have := (hitWay_isSome _ _).2 ⟨v, hv, ht⟩
    rw [hl] at this
    cases this
  have line : ∀ v, ((s.ic.get i).lines.set w.val l w.isLt).get v = if v = w then l else (s.ic.get i).lines.get v := by
    intro v
    simp only [Vector.get_eq_getElem, Vector.getElem_set]
    exact if_congr (by rw [Fin.ext_iff, eq_comm]) rfl rfl
  intro x u v hu hv ht
  rw [installLine, setCacheSet_get] at hu hv ht
  split at ht
  next hx =>
    rw [if_pos hx] at hu hv
    simp only [line] at hu hv ht
    by_cases eu : u = w <;> by_cases ev : v = w
    · rw [eu, ev]
    · rw [if_pos eu, if_neg ev] at ht
      rw [if_neg ev] at hv
      exact absurd ht.symm (miss v hv)
    · rw [if_neg eu, if_pos ev] at ht
      rw [if_neg eu] at hu
      exact absurd ht (miss u hu)
    · rw [if_neg eu, if_neg ev] at ht
      rw [if_neg eu] at hu
      rw [if_neg ev] at hv
      exact h i u v hu hv ht
  next hx =>
    rw [if_neg hx] at hu hv
    exact h x u v hu hv ht

/-- A miss fills a way with a tag that was not there (R241, R242). -/
theorem tagsDistinct_cacheMiss {s : State} (h : tagsDistinct s) (a : Word) (n : Nat)
    (hm : hitWay (s.ic.get (cacheIndex a)) (cacheTag a) = none) : tagsDistinct (cacheMiss s a n).2.2 := by
  have lines : ∀ i, ((lineFill (victimWay s (cacheIndex a)).2 (lineBase a)).2.ic.get i).lines = (s.ic.get i).lines :=
    fun i => by rw [(lineFill_keeps _ _).ic, victimWay_lines]
  refine tagsDistinct_installLine (tagsDistinct_congr lines h) _ _ _ ?_
  show hitWay _ (cacheTag a) = none
  rw [← hm]
  unfold hitWay
  rw [lines]

theorem cacheMiss_devicesSafe (s : State) (a : Word) (n : Nat) : DevicesSafe s (cacheMiss s a n).2.2 :=
  (victimWay_devicesSafe s _).trans ((lineFill_devicesSafe _ _).trans (.of_eq rfl rfl))

/-! ### Aligned words -/

theorem even_iff {a : Word} : a.getLsbD 0 = false ↔ a.toNat % 2 = 0 := by
  rw [← BitVec.testBit_toNat, Nat.testBit_zero]
  simp

theorem aligned_iff {a : Word} : (a.getLsbD 0 = false ∧ a.getLsbD 1 = false) ↔ a.toNat % 4 = 0 := by
  rw [even_iff, ← BitVec.testBit_toNat, Nat.testBit_succ, Nat.testBit_zero]
  simp
  omega

theorem alignWord_mod_four (a : Word) : (alignWord a).toNat % 4 = 0 := by
  rw [alignWord, BitVec.toNat_and, show 4 = 2 ^ 2 from rfl, Nat.and_mod_two_pow]
  simp

theorem alignHalf_mod_two (a : Word) : (alignHalf a).toNat % 2 = 0 := by
  rw [alignHalf, BitVec.toNat_and, show 2 = 2 ^ 1 from rfl, Nat.and_mod_two_pow]
  simp

/-! ### The invariant and its part that does not speak of the program counter -/

/-- The invariant but for the program counter: what stays true between a change of state or mode and the jump that
follows it. -/
structure InvButPc (s : State) : Prop where
  memory : memoryCanonical s
  mode : modeLegal s
  vectors : vectorsDerived s
  pending : pendingBounded s
  tags : tagsDistinct s
  events : slotsAscending s

theorem Inv.butPc {s : State} (h : Inv s) : InvButPc s :=
  ⟨h.memory, h.mode, h.vectors, h.pending, h.tags, h.events⟩

theorem InvButPc.inv {s : State} (h : InvButPc s) (hp : pcAligned s) : Inv s :=
  ⟨h.memory, h.mode, h.vectors, hp, h.pending, h.tags, h.events⟩

theorem slotsAscending_of_ids {s t : State} (h : slotsAscending s) (hi : slotIds t = slotIds s)
    (hp : t.params = s.params) : slotsAscending t := by
  unfold slotsAscending
  rw [hp]
  exact ⟨hi.trans h.1, h.2⟩

/-- The program counter's alignment is a matter of the live file and the state bit. -/
theorem pcAligned_congr {s t : State} (h : pcAligned s) (hr : reg t 15#4 = reg s 15#4) (hf : flagT t = flagT s) :
    pcAligned t := by
  unfold pcAligned
  rw [hr, hf]
  exact h

/-- The alignment after a write of the program counter. -/
theorem pcAligned_setReg_pc {s : State} {a : Word} (h0 : a.getLsbD 0 = false)
    (h1 : flagT s = false → a.getLsbD 1 = false) : pcAligned (setReg s 15#4 a) := by
  unfold pcAligned
  rw [reg_setReg_same]
  exact ⟨h0, h1⟩

theorem InvButPc.setReg {s : State} (h : InvButPc s) (i : Reg) (v : Word) : InvButPc (setReg s i v) :=
  ⟨h.memory, h.mode, h.vectors, h.pending, h.tags, h.events⟩

/-- A write of any register but the program counter keeps the invariant. -/
theorem Inv.setReg {s : State} (h : Inv s) {i : Reg} (hi : i ≠ 15#4) (v : Word) : Inv (setReg s i v) :=
  (h.butPc.setReg i v).inv (pcAligned_congr h.pc (reg_setReg_ne s v hi.symm) rfl)

/-- What a fetch or a collaborator's calls keep is enough, with the cache's tags and the two devices. -/
theorem Inv.of_fetchKeep {s t : State} (h : Inv s) (k : FetchKeep s t) (d : DevicesSafe s t) (ht : tagsDistinct t) :
    Inv t where
  memory := by unfold memoryCanonical; rw [k.mem]; exact h.memory
  mode := by unfold modeLegal curMode flagJ; rw [k.cpsr]; exact h.mode
  vectors := by unfold vectorsDerived; rw [k.exceptionBase, k.ctrl]; exact h.vectors
  pc := pcAligned_congr h.pc (reg_congr k.regs _) (by unfold flagT; rw [k.cpsr])
  pending := d.pending h.pending
  tags := ht
  events := slotsAscending_of_ids h.events d.ids k.params

theorem Inv.of_callsKeep {s t : State} (h : Inv s) (k : CallsKeep s t) (d : DevicesSafe s t) : Inv t :=
  h.of_fetchKeep k.fetch d (tagsDistinct_congr (fun i => by rw [k.ic]) h.tags)

/-! ### Accesses and fetches -/

theorem Inv.busRead {s : State} (h : Inv s) (a : Word) (n : Nat) : Inv (busRead s a n).2 :=
  h.of_callsKeep (busRead_keeps s a n) (busRead_devicesSafe s a n)

theorem Inv.busWrite {s : State} (h : Inv s) (a : Word) (n : Nat) (v : Word) : Inv (busWrite s a n v) := by
  rcases busWrite_cases s a n v with ⟨f, -, hw⟩ | ⟨-, k⟩
  · rw [hw]
    exact ⟨wf_flatWrite h.memory f a n v, h.mode, h.vectors, h.pc, h.pending, h.tags, h.events⟩
  · exact h.of_callsKeep k (busWrite_devicesSafe s a n v)

theorem Inv.cacheLookup {s : State} (h : Inv s) (a : Word) (n : Nat) : Inv (cacheLookup s a n).2.2 := by
  refine h.of_fetchKeep (cacheLookup_fetch s a n) ?_ ?_ <;> unfold Machine.cacheLookup <;> split
  · exact .refl s
  · exact cacheMiss_devicesSafe s a n
  · exact h.tags
  · next hm => exact tagsDistinct_cacheMiss h.tags a n hm

/-- A code fetch keeps the invariant (R230). -/
theorem Inv.fetchCode {s : State} (h : Inv s) (a : Word) (n : Width) (q : Bool) : Inv (fetchCode s a n q).2 := by
  unfold Machine.fetchCode
  split
  · obtain ⟨hm, hmode, hv, hpc, hp, ht, he⟩ := h.cacheLookup a n.bytes
    exact ⟨hm, hmode, hv, hpc, hp, ht, he⟩
  · obtain ⟨hm, hmode, hv, hpc, hp, ht, he⟩ := h.busRead a n.bytes
    exact ⟨hm, hmode, hv, hpc, hp, ht, he⟩

theorem Inv.chargedFetch {s : State} (h : Inv s) (a : Word) (n : Width) (q : Bool) : Inv (chargedFetch s a n q).2 := by
  obtain ⟨hm, hmode, hv, hpc, hp, ht, he⟩ := h.fetchCode a n q
  exact ⟨hm, hmode, hv, hpc, hp, ht, he⟩

/-- The fetch of a Thumb step keeps the invariant, whatever R234 draws. -/
theorem Inv.fetchThumbNext {s : State} (h : Inv s) (a : Word) : Inv (fetchThumbNext s a).2 := by
  have hn : Inv { s with thumbStale := none } := ⟨h.memory, h.mode, h.vectors, h.pc, h.pending, h.tags, h.events⟩
  have hd : Inv { s with draws := s.draws + 1, thumbStale := none } :=
    ⟨h.memory, h.mode, h.vectors, h.pc, h.pending, h.tags, h.events⟩
  unfold Machine.fetchThumbNext
  split
  · split
    · exact hd.fetchCode a .half true
    · exact hn.fetchCode a .half true
  · exact h.fetchCode a .half true

/-! ### Jumps -/

/-- The end of a jump makes the program counter aligned (R410). -/
theorem InvButPc.refill {s : State} (h : InvButPc s) {a : Word} {n : Width} (h0 : (a + n.size).getLsbD 0 = false)
    (h1 : flagT s = false → (a + n.size).getLsbD 1 = false) : Inv (refill s a n) := by
  have hs : Inv (Machine.setReg s 15#4 (a + n.size)) := (h.setReg _ _).inv (pcAligned_setReg_pc h0 h1)
  obtain ⟨hm, hmode, hv, hpc, hp, ht, he⟩ := hs.chargedFetch a n false
  have hx : Inv { (Machine.chargedFetch (Machine.setReg s 15#4 (a + n.size)) a n false).2 with
      slot0 := (Machine.chargedFetch (Machine.setReg s 15#4 (a + n.size)) a n false).1 } :=
    ⟨hm, hmode, hv, hpc, hp, ht, he⟩
  obtain ⟨ym, ymode, yv, ypc, yp, yt, ye⟩ := hx.chargedFetch (a + n.size) n true
  exact ⟨ym, ymode, yv, ypc, yp, yt, ye⟩

theorem modeOf_setBit {w : Word} {i : Nat} (b : Bool) (h : 5 ≤ i) : modeOf (setBit w i b) = modeOf w := by
  apply BitVec.eq_of_getLsbD_eq
  intro j hj
  simp only [modeOf, BitVec.getLsbD_extractLsb', hj, decide_true, Bool.true_and, getLsbD_setBit]
  rw [if_neg (by omega)]

/-- The state bit of the status replaced. -/
theorem InvButPc.setState {s : State} (h : InvButPc s) (b : Bool) :
    InvButPc { s with cpsr := setBit s.cpsr 5 b, thumbStale := none } := by
  refine ⟨h.memory, ⟨?_, ?_⟩, h.vectors, h.pending, h.tags, h.events⟩
  · show validMode (modeOf (setBit s.cpsr 5 b)) = true
    rw [modeOf_setBit b (by omega)]
    exact h.mode.1
  · show (setBit s.cpsr 5 b).getLsbD 24 = false
    rw [getLsbD_setBit, if_neg (by omega)]
    exact h.mode.2

/-- A jump makes the whole invariant of what is left of it while the state or the mode changes (R410). -/
theorem InvButPc.jumpTo {s : State} (h : InvButPc s) (a : Word) : Inv (jumpTo s a) := by
  unfold Machine.jumpTo
  split
  · refine (h.setState true).refill (even_iff.2 ?_) fun ht => ?_
    · have := alignHalf_mod_two a
      simp only [Width.size, Width.bytes, BitVec.toNat_add, BitVec.toNat_ofNat]
      omega
    · rw [flagT, getLsbD_setBit] at ht
      cases ht
  · have hw : (alignWord a + Width.word.size).toNat % 4 = 0 := by
      have := alignWord_mod_four a
      simp only [Width.size, Width.bytes, BitVec.toNat_add, BitVec.toNat_ofNat]
      omega
    exact (h.setState false).refill (aligned_iff.2 hw).1 fun _ => (aligned_iff.2 hw).2

theorem Inv.jumpTo {s : State} (h : Inv s) (a : Word) : Inv (Machine.jumpTo s a) := h.butPc.jumpTo a
end Sys2Proof.Machine
end

section
/-! PROOFS. What each shared operation of the instructions keeps of the invariant: status writes, exceptions, accesses,
multiple transfers. -/

namespace Sys2Proof.Machine

open Sys2Proof

/-! ### Parts of instructions that keep the invariant -/

/-- A part of an instruction that answers has `P`; an exception it entered left the invariant. -/
def Res.Ends {α : Type} (P : α → State → Prop) : Res α → Prop
  | .ok a t => P a t
  | .trap t => Inv t
  | .fault _ => True

/-- A part of an instruction that leaves the invariant wherever it does not fault. -/
abbrev Res.Keeps {α : Type} (r : Res α) : Prop := r.Ends fun _ t => Inv t

/-- An instruction that leaves the invariant wherever it does not fault. -/
def OutKeeps : Out → Prop
  | .next t => Inv t
  | .fault _ => True
  | .refused _ => True

section Sequencing
variable {α β : Type} {P : α → State → Prop} {Q : β → State → Prop} {r : Res α}

theorem Res.Ends.bind {f : α → State → Res β} (h : r.Ends P) (hf : ∀ a t, P a t → (f a t).Ends Q) :
    (r.bind f).Ends Q := by
  cases r with
  | ok a t => exact hf a t h
  | trap t => exact h
  | fault e => trivial

/-- A checked part runs only where the check passes. -/
theorem Res.Ends.checked {bad : Bool} (e : Fault) (h : bad = false → r.Ends P) : (unpredictableIf bad e r).Ends P := by
  cases bad with
  | false => exact h rfl
  | true => trivial

theorem Res.Ends.shouldBe {good : Bool} (h : r.Ends P) : (shouldBe good r).Ends P := .checked _ fun _ => h

end Sequencing

theorem Inv.done {s : State} (h : Inv s) : (done s).Keeps := h

/-- An executed instruction leaves what its body does (R425). -/
theorem OutKeeps.run {s : State} {body : State → Res Unit} (h : Inv s) (hb : ∀ t, Inv t → (body t).Keeps) :
    OutKeeps (run s body) := by
  have hk := hb (begun s) ⟨h.memory, h.mode, h.vectors, h.pc, h.pending, h.tags, h.events⟩
  unfold Machine.run
  cases hr : body (begun s) <;> rw [hr] at hk
  case ok a t => exact ⟨hk.memory, hk.mode, hk.vectors, hk.pc, hk.pending, hk.tags, hk.events⟩
  case trap t => exact ⟨hk.memory, hk.mode, hk.vectors, hk.pc, hk.pending, hk.tags, hk.events⟩
  case fault f => trivial

/-- A skipped instruction changes the cost alone (R422). -/
theorem OutKeeps.skipped {s : State} (h : Inv s) : OutKeeps (.next (chargeFetch s)) :=
  ⟨h.memory, h.mode, h.vectors, h.pc, h.pending, h.tags, h.events⟩

theorem OutKeeps.runIf {s : State} {c : BitVec 4} {body : State → Res Unit} (h : Inv s)
    (hb : ∀ t, Inv t → (body t).Keeps) : OutKeeps (runIf c s body) := by
  unfold Machine.runIf
  split
  · exact .run h hb
  · exact .skipped h

/-! ### The status register (R110-R113) -/

/-- Two status words agree below the flags: mode, masks, state bit and J. -/
def SameControl (v w : Word) : Prop := ∀ i, i < 27 → w.getLsbD i = v.getLsbD i

theorem SameControl.modeOf {v w : Word} (h : SameControl v w) : modeOf w = modeOf v := by
  apply BitVec.eq_of_getLsbD_eq
  intro i hi
  simp only [Machine.modeOf, BitVec.getLsbD_extractLsb', h (0 + i) (by omega)]

theorem sameControl_withNZ (w r : Word) : SameControl w (withNZ w r) := fun i hi => by
  rw [getLsbD_withNZ, if_neg (by omega), if_neg (by omega)]

theorem sameControl_withNZ64 (w : Word) (p : BitVec 64) : SameControl w (withNZ64 w p) := fun i hi => by
  rw [getLsbD_withNZ64, if_neg (by omega), if_neg (by omega)]

theorem sameControl_withNZC (w r : Word) (c : Bool) : SameControl w (withNZC w r c) := fun i hi => by
  rw [getLsbD_withNZC, if_neg (by omega), sameControl_withNZ w r i hi]

theorem sameControl_withNZCV (w r : Word) (c v : Bool) : SameControl w (withNZCV w r c v) := fun i hi => by
  rw [getLsbD_withNZCV, if_neg (by omega), sameControl_withNZC w r c i hi]

theorem sameControl_withQ (w : Word) (q : Bool) : SameControl w (withQ w q) := fun i hi => by
  rw [getLsbD_withQ, if_neg (by omega)]

theorem sameControl_dpFlags (op : DpOp) (w : Word) (r : AluOut) : SameControl w (dpFlags op w r) := by
  unfold dpFlags
  split
  · exact sameControl_withNZCV _ _ _ _
  · exact sameControl_withNZC _ _ _

/-- MRC to R15 replaces the four flags (R805). -/
theorem sameControl_mrcFlags (w v : Word) : SameControl w ((w &&& 0x0FFFFFFF#32) ||| (v &&& 0xF0000000#32)) := by
  intro i hi
  have low : (0x0FFFFFFF#32).getLsbD i = true := by interval_cases i <;> rfl
  have high : (0xF0000000#32).getLsbD i = false := by interval_cases i <;> rfl
  rw [BitVec.getLsbD_or, BitVec.getLsbD_and, BitVec.getLsbD_and, low, high]
  simp

/-- A write of the flags keeps the invariant (R113). -/
theorem Inv.setFlags {s : State} (h : Inv s) {w : Word} (hw : SameControl s.cpsr w) : Inv (setFlags s w) where
  memory := h.memory
  mode := by
    refine ⟨?_, (hw 24 (by omega)).trans h.mode.2⟩
    show validMode (modeOf w) = true
    rw [hw.modeOf]
    exact h.mode.1
  vectors := h.vectors
  pc := pcAligned_congr h.pc rfl (hw 5 (by omega))
  pending := h.pending
  tags := h.tags
  events := h.events

theorem InvButPc.setBankSpsr {s : State} (h : InvButPc s) (b : BankMode) (v : Word) : InvButPc (setBankSpsr s b v) := by
  cases b <;> exact ⟨h.memory, h.mode, h.vectors, h.pending, h.tags, h.events⟩

theorem Inv.setBankSpsr {s : State} (h : Inv s) (b : BankMode) (v : Word) : Inv (setBankSpsr s b v) := by
  cases b <;> exact ⟨h.memory, h.mode, h.vectors, h.pc, h.pending, h.tags, h.events⟩

theorem InvButPc.of_exchange {s t : State} (h : InvButPc s) (k : ExchangeKeeps s t) : InvButPc t where
  memory := by unfold memoryCanonical; rw [k.mem]; exact h.memory
  mode := by unfold modeLegal curMode flagJ; rw [k.cpsr]; exact h.mode
  vectors := by unfold vectorsDerived; rw [k.system.exceptionBase, k.system.ctrl]; exact h.vectors
  pending := by unfold pendingBounded; rw [k.devices.intc]; exact h.pending
  tags := tagsDistinct_congr (fun i => by rw [k.cache.ic]) h.tags
  events := slotsAscending_of_ids h.events (by unfold slotIds; rw [k.devices.sched]) k.system.params

/-- A write of the whole status with a legal mode (R112). -/
theorem InvButPc.replaceCpsr {s : State} (h : InvButPc s) {v : Word} (hv : validMode (modeOf v) = true) :
    InvButPc (replaceCpsr s v) := by
  have hs : InvButPc { s with cpsr := setBit v 24 false } := by
    refine ⟨h.memory, ⟨?_, ?_⟩, h.vectors, h.pending, h.tags, h.events⟩
    · show validMode (modeOf (setBit v 24 false)) = true
      rw [modeOf_setBit false (by omega)]
      exact hv
    · show (setBit v 24 false).getLsbD 24 = false
      rw [getLsbD_setBit]
      rfl
  exact hs.of_exchange (switchMode_keeps _ _ _)

/-- No bank holds the program counter (R103). -/
theorem reg_swapBank_pc (s : State) (b : Option BankMode) : reg (swapBank s b) 15#4 = reg s 15#4 := by
  rcases b with _ | b
  · rfl
  · cases b <;> simp [swapBank, reg, withTwo, withSeven, Vector.get_eq_getElem]

theorem reg_switchMode_pc (s : State) (a b : BitVec 5) : reg (switchMode s a b) 15#4 = reg s 15#4 := by
  unfold switchMode
  split
  · rfl
  · rw [reg_swapBank_pc, reg_swapBank_pc]

theorem replaceCpsr_cpsr (s : State) (v : Word) : (replaceCpsr s v).cpsr = setBit v 24 false :=
  (switchMode_keeps _ _ _).cpsr

/-- A status write that keeps the state bit keeps the invariant (R112). -/
theorem Inv.writeCpsr {s : State} (h : Inv s) {v : Word} (ht : v.getLsbD 5 = flagT s) : (writeCpsr s v).Keeps := by
  refine .checked _ fun hv => ?_
  refine (h.butPc.replaceCpsr (by simpa using hv)).inv (pcAligned_congr h.pc (reg_switchMode_pc _ _ _) ?_)
  rw [flagT, replaceCpsr_cpsr, getLsbD_setBit, if_neg (by omega), ht]

theorem Res.Ends.withSpsrBank {s : State} {f : BankMode → Res Unit} (hf : ∀ b, (f b).Keeps) :
    (withSpsrBank s f).Keeps := by
  unfold Machine.withSpsrBank
  split
  · exact hf _
  · trivial

theorem Inv.msrWrite {s : State} (h : Inv s) (r : Bool) (f : BitVec 4) (v : Word) : (msrWrite s r f v).Keeps := by
  unfold Machine.msrWrite
  split
  · exact .withSpsrBank fun b => h.setBankSpsr b _
  · exact .checked _ fun ht => h.writeCpsr (by simpa using ht)

/-- The restored status is a legal one (R1120, R1121). -/
theorem Inv.restoreSavedStatus {s : State} (h : Inv s) :
    (restoreSavedStatus s).Ends fun _ t => InvButPc t := by
  unfold Machine.restoreSavedStatus
  split
  · exact .checked _ fun hv => h.butPc.replaceCpsr (by simpa using hv)
  next hb =>
    have low : ∀ m : BitVec 5, validMode m = true → bankOf m = none → m = 0x10#5 ∨ m = 0x1F#5 := by decide
    have hm := low _ h.mode.1 hb
    have h4 : s.cpsr.getLsbD 4 = true := by
      have : (modeOf s.cpsr).getLsbD 4 = true := by
        rcases hm with e | e <;> (rw [show modeOf s.cpsr = _ from e]; rfl)
      simpa [modeOf] using this
    have he : setBit s.cpsr 4 true = s.cpsr := by
      apply BitVec.eq_of_getLsbD_eq
      intro i _
      rw [getLsbD_setBit]
      split
      next hi => rw [hi.1, h4]
      · rfl
    rw [he]
    exact h.butPc

/-! ### Jumps and exceptions -/

theorem Inv.branchWritePc {s : State} (h : Inv s) (v : Word) : (branchWritePc s v).Keeps := by
  unfold Machine.branchWritePc
  split
  · exact h.jumpTo _
  · exact .checked _ fun _ => h.jumpTo _

theorem Inv.bxWritePc {s : State} (h : Inv s) (v : Word) : (bxWritePc s v).Keeps := .checked _ fun _ => h.jumpTo _

/-- The return from an exception keeps the invariant (R408, R1120). -/
theorem Inv.exceptionReturn {s : State} (h : Inv s) (v : Word) : (exceptionReturn s v).Keeps :=
  h.restoreSavedStatus.bind fun _ _ ht => .checked _ fun _ => ht.jumpTo _

theorem modeOf_excStatus (s : State) (k : Exc) : modeOf (excStatus s k) = bankMode (excBank k) := by
  have base : ∀ m : BitVec 5, modeOf ((s.cpsr &&& ~~~0x1F#32) ||| m.setWidth 32) = m := by
    intro m
    apply BitVec.eq_of_getLsbD_eq
    intro i hi
    have mask : (~~~0x1F#32).getLsbD i = false := by interval_cases i <;> rfl
    rw [modeOf, BitVec.getLsbD_extractLsb', Nat.zero_add, BitVec.getLsbD_or, BitVec.getLsbD_and, mask]
    simp [hi]
    omega
  unfold excStatus
  dsimp only
  split <;> simp only [modeOf_setBit _ (show 5 ≤ 5 by omega), modeOf_setBit _ (show 5 ≤ 6 by omega),
    modeOf_setBit _ (show 5 ≤ 7 by omega), base]

/-- Taking an exception makes the whole invariant (R1103). -/
theorem InvButPc.enterException {s : State} (h : InvButPc s) (k : Exc) (ret : Word) : Inv (enterException s k ret) := by
  refine InvButPc.jumpTo (InvButPc.setReg ?_ _ _) _
  refine (h.setBankSpsr _ _).replaceCpsr ?_
  rw [modeOf_excStatus]
  exact validMode_bankMode _

theorem Inv.raise {s : State} (h : Inv s) {α : Type} {P : α → State → Prop} (k : Exc) :
    (raise s k : Res α).Ends P := h.butPc.enterException k _

theorem Inv.dispatchIrq {s : State} (h : Inv s) : Inv (dispatchIrq s) := by
  obtain ⟨hm, hmode, hv, hpc, hp, ht, he⟩ := h.butPc.enterException .irq (reg s 15#4 - (instrWidth s).size + 4#32)
  exact ⟨hm, hmode, hv, hpc, hp, ht, he⟩

/-! ### Data accesses and base writeback (R650) -/

theorem Inv.recordAccess {s : State} (h : Inv s) (a : Word) (n : Width) : Inv (recordAccess s a n) :=
  ⟨h.memory, h.mode, h.vectors, h.pc, h.pending, h.tags, h.events⟩

theorem Inv.load {s : State} (h : Inv s) (a : Word) (n : Width) : (load s a n).Keeps := by
  unfold Machine.load
  split
  · exact h.raise _
  · exact (h.recordAccess a n).busRead a n.bytes

theorem Inv.store {s : State} (h : Inv s) (a : Word) (n : Width) (v : Word) : (store s a n v).Keeps := by
  unfold Machine.store
  split
  · exact h.raise _
  · exact (h.recordAccess a n).busWrite a n.bytes v

/-- A base is written back where it is not the program counter (R650). -/
theorem Inv.writeback {s : State} (h : Inv s) {wb : Bool} {rn : Reg} (hw : wb = true → rn ≠ 15#4) (m : Word) :
    Inv (writeback s wb rn m) := by
  unfold Machine.writeback
  split
  next e => exact h.setReg (hw e) m
  · exact h

theorem ofNat_ne_pc {i : Nat} (h : i < 15) : BitVec.ofNat 4 i ≠ 15#4 := fun e => by
  have := ofNat4_inj (by omega) (by omega : 15 < 16) e
  omega

theorem Inv.setBankReg {s : State} (h : Inv s) (b : BankMode) (i : Reg) (v : Word) : Inv (setBankReg s b i v) := by
  cases b <;> exact ⟨h.memory, h.mode, h.vectors, h.pc, h.pending, h.tags, h.events⟩

theorem Inv.setUserReg {s : State} (h : Inv s) {i : Reg} (hi : i ≠ 15#4) (v : Word) : Inv (setUserReg s i v) := by
  unfold Machine.setUserReg
  split
  · exact h.setBankReg _ _ _
  · exact h.setReg hi v

/-- A multiple load keeps the invariant where every single write does (R680). -/
theorem Inv.loadEach {put : State → Reg → Word → State} {l : List Nat}
    (hp : ∀ t i v, i ∈ l → Inv t → Inv (put t (BitVec.ofNat 4 i) v)) {s : State} (h : Inv s) (a : Word) :
    (loadEach put l a s).Keeps := by
  induction l generalizing a s with
  | nil => exact h
  | cons i r ih =>
    exact (h.load a .word).bind fun v t ht =>
      ih (fun t j v hj => hp t j v (List.mem_cons_of_mem _ hj)) (hp t i v List.mem_cons_self ht) _

/-- The registers below the program counter, loaded. -/
theorem Inv.loadRegs {s : State} (h : Inv s) {l : List Nat} (hl : ∀ i ∈ l, i < 15) (a : Word) :
    (Machine.loadEach Machine.setReg l a s).Keeps :=
  h.loadEach (fun _ i v hi ht => ht.setReg (ofNat_ne_pc (hl i hi)) v) a

theorem Inv.storeEach (get : State → Reg → Word) (l : List Nat) {s : State} (h : Inv s) (a : Word) :
    (storeEach get l a s).Keeps := by
  induction l generalizing a s with
  | nil => exact h
  | cons i r ih => exact (h.store a .word _).bind fun _ t ht => ih ht _

end Sys2Proof.Machine
end

section
/-! PROOFS. Every instruction, and so every step, keeps the invariant (O6). -/

namespace Sys2Proof.Machine

open Sys2Proof

/-! ### Data processing, status and arithmetic -/

section Arithmetic
variable {s : State}

theorem Inv.dataProc (h : Inv s) (op : DpOp) (sf : Bool) (rn rd : Reg) (o : ShiftOut) :
    (dataProc op sf rn rd o s).Keeps := by
  unfold Machine.dataProc
  dsimp only
  split
  · split
    · exact h.exceptionReturn _
    · exact h.branchWritePc _
  next hrd =>
    have ht : Inv (if dpWrites op then Machine.setReg s rd (dpAlu op (reg s rn) o (flagC s)).value else s) := by
      split
      next hw => exact h.setReg (by rintro rfl; simp [hw] at hrd) _
      · exact h
    split
    · exact ht.setFlags (sameControl_dpFlags _ _ _)
    · exact ht

theorem Inv.dpImmShift (h : Inv s) (op : DpOp) (sf : Bool) (rn rd : Reg) (imm : BitVec 5) (st : BitVec 2) (rm : Reg) :
    (dpImmShift op sf rn rd imm st rm s).Keeps := h.dataProc ..

theorem Inv.dpRegShift (h : Inv s) (op : DpOp) (sf : Bool) (rn rd rs : Reg) (st : BitVec 2) (rm : Reg) :
    (dpRegShift op sf rn rd rs st rm s).Keeps := .checked _ fun _ => h.dataProc ..

theorem Inv.dpImm (h : Inv s) (op : DpOp) (sf : Bool) (rn rd : Reg) (rot : BitVec 4) (imm : BitVec 8) :
    (dpImm op sf rn rd rot imm s).Keeps := h.dataProc ..

theorem Inv.saturated (h : Inv s) {rd : Reg} (hd : rd ≠ 15#4) (r : Word × Bool) (sat : Bool) :
    Inv (saturated s rd r sat) := (h.setReg hd _).setFlags (sameControl_withQ _ _)

/-- The saturating instructions' checks keep R15 out of the destination (R550). -/
theorem Res.Ends.saturating {rn rd rm : Reg} {sbz : BitVec 4} {r : Res Unit} (h : rd ≠ 15#4 → r.Keeps) :
    (saturating rn rd sbz rm r).Keeps := .shouldBe (.checked _ fun hd => h (by rintro rfl; simp at hd))

theorem Inv.product32 (h : Inv s) (sf : Bool) {rd : Reg} (hd : rd ≠ 15#4) (r : Word) : (product32 s sf rd r).Keeps := by
  unfold Machine.product32
  split
  · exact (h.setReg hd r).setFlags (sameControl_withNZ _ _)
  · exact h.setReg hd r

theorem Inv.product64 (h : Inv s) (sf : Bool) {rdHi rdLo : Reg} (hh : rdHi ≠ 15#4) (hl : rdLo ≠ 15#4) (p : BitVec 64) :
    (product64 s sf rdHi rdLo p).Keeps := by
  unfold Machine.product64
  split
  · exact ((h.setReg hl _).setReg hh _).setFlags (sameControl_withNZ64 _ _)
  · exact (h.setReg hl _).setReg hh _

theorem Inv.accumulate32 (h : Inv s) {rd : Reg} (hd : rd ≠ 15#4) (i : Int) : (accumulate32 s rd i).Keeps :=
  (h.setReg hd _).setFlags (sameControl_withQ _ _)

/-- The long multiplies' checks keep R15 out of the pair (R603). -/
theorem Res.Ends.longChecks {rdHi rdLo rs rm : Reg} {r : Res Unit} (h : rdHi ≠ 15#4 → rdLo ≠ 15#4 → r.Keeps) :
    (longChecks rdHi rdLo rs rm r).Keeps :=
  .checked _ fun hd => .checked _ fun _ => .checked _ fun _ =>
    h (by rintro rfl; simp at hd) (by rintro rfl; simp at hd)

theorem lowReg_ne_pc : ∀ r : LowReg, lowReg r ≠ 15#4 := by decide

theorem Inv.setLow (h : Inv s) (rd : LowReg) (v : Word) : Inv (Machine.setReg s (lowReg rd) v) :=
  h.setReg (lowReg_ne_pc rd) v

theorem Inv.thumbNZ (h : Inv s) (rd : LowReg) (r : Word) : (thumbNZ s rd r).Keeps :=
  (h.setLow rd r).setFlags (sameControl_withNZ _ _)

theorem Inv.thumbNZC (h : Inv s) (rd : LowReg) (o : ShiftOut) : (thumbNZC s rd o).Keeps :=
  (h.setLow rd _).setFlags (sameControl_withNZC _ _ _)

theorem Inv.thumbFlags (h : Inv s) (r : AluOut) : (thumbFlags s r).Keeps := h.setFlags (sameControl_withNZCV _ _ _ _)

theorem Inv.thumbArith (h : Inv s) (rd : LowReg) (r : AluOut) : (thumbArith s rd r).Keeps :=
  (h.setLow rd _).thumbFlags r

theorem Inv.thumbShift (h : Inv s) (st : BitVec 2) (rm rd : LowReg) : (thumbShift st rm rd s).Keeps := h.thumbNZC ..

theorem Inv.hiWrite (h : Inv s) (rd : Reg) (v : Word) : (hiWrite s rd v).Keeps := by
  unfold Machine.hiWrite
  split
  · exact h.branchWritePc v
  next hd => exact h.setReg hd v

end Arithmetic

/-! ### Loads and stores -/

/-- An address was computed whose base, where it is written back, is not the program counter (R651, R665). -/
structure Addressed (rn : Reg) (x : Addr) (t : State) : Prop where
  inv : Inv t
  base : x.wb = true → rn ≠ 15#4

section LoadStore
variable {s : State} {rn rd : Reg} {x : Addr}

theorem base_ne_pc {wb : Bool} (h : (wb && rn == 15#4) = false) (hw : wb = true) : rn ≠ 15#4 := by
  rintro rfl
  simp [hw] at h

theorem Inv.mode2Imm (h : Inv s) (p u w : Bool) (rn rd : Reg) (imm : BitVec 12) :
    (mode2Imm s p u w rn rd imm).Ends (Addressed rn) :=
  .checked _ fun hb => .checked _ fun _ => ⟨h, base_ne_pc hb⟩

theorem Inv.mode2Reg (h : Inv s) (p u w : Bool) (rn rd : Reg) (imm : BitVec 5) (st : BitVec 2) (rm : Reg) :
    (mode2Reg s p u w rn rd imm st rm).Ends (Addressed rn) :=
  .checked _ fun _ => .checked _ fun hb => .checked _ fun _ => .checked _ fun _ =>
    ⟨h, base_ne_pc hb⟩

theorem Inv.mode3 (h : Inv s) (p u w : Bool) (rn rd : Reg) (off : Word) :
    (mode3 s p u w rn rd off).Ends (Addressed rn) :=
  .checked _ fun _ => .checked _ fun hb => .checked _ fun _ => ⟨h, base_ne_pc hb⟩

theorem Inv.mode3Imm (h : Inv s) (p u w : Bool) (rn rd : Reg) (hi lo : BitVec 4) :
    (mode3Imm s p u w rn rd hi lo).Ends (Addressed rn) := h.mode3 ..

theorem Inv.mode3Reg (h : Inv s) (p u w : Bool) (rn rd : Reg) (sbz : BitVec 4) (rm : Reg) :
    (mode3Reg s p u w rn rd sbz rm).Ends (Addressed rn) := .shouldBe (.checked _ fun _ => h.mode3 ..)

theorem Inv.loadRotated (h : Inv s) (a : Word) : (loadRotated s a).Keeps := (h.load _ .word).bind fun _ _ ht => ht

theorem Addressed.loadWord (h : Addressed rn x s) (rd : Reg) : (loadWord s rn rd x).Keeps :=
  (h.inv.loadRotated _).bind fun v t ht => by
    split
    · exact .checked _ fun _ => (ht.writeback h.base _).bxWritePc v
    next hd => exact (ht.setReg hd v).writeback h.base _

theorem Addressed.loadExtended (h : Addressed rn x s) (hd : rd ≠ 15#4) (n : Width) (ext : Word → Word) :
    (loadExtended n ext s rn rd x).Keeps :=
  (h.inv.load _ n).bind fun _ _ ht => (ht.setReg hd _).writeback h.base _

theorem Addressed.storeWord (h : Addressed rn x s) (rd : Reg) : (storeWord s rn rd x).Keeps :=
  (h.inv.store _ .word _).bind fun _ _ ht => ht.writeback h.base _

theorem Addressed.storeNarrow (h : Addressed rn x s) (n : Width) (rd : Reg) : (storeNarrow n s rn rd x).Keeps :=
  (h.inv.store _ n _).bind fun _ _ ht => ht.writeback h.base _

theorem Addressed.loadByte (h : Addressed rn x s) (hd : rd ≠ 15#4) : (loadByte s rn rd x).Keeps := h.loadExtended hd ..

theorem Addressed.loadSignedByte (h : Addressed rn x s) (hd : rd ≠ 15#4) : (loadSignedByte s rn rd x).Keeps :=
  h.loadExtended hd ..

theorem Addressed.loadHalf (h : Addressed rn x s) (hd : rd ≠ 15#4) : (loadHalf s rn rd x).Keeps :=
  .checked _ fun _ => h.loadExtended hd ..

theorem Addressed.loadSignedHalf (h : Addressed rn x s) (hd : rd ≠ 15#4) : (loadSignedHalf s rn rd x).Keeps :=
  .checked _ fun _ => h.loadExtended hd ..

theorem Addressed.storeHalf (h : Addressed rn x s) (rd : Reg) : (storeHalf s rn rd x).Keeps :=
  .checked _ fun _ => h.storeNarrow ..

/-- The second register of an even pair is not the program counter (R670). -/
theorem pair_ne_pc : ∀ rd : Reg, (rd.getLsbD 0 || rd == 14#4) = false → rd ≠ 15#4 ∧ rd + 1#4 ≠ 15#4 := by decide

theorem Res.Ends.pairChecked {r : Res Unit} (h : rd ≠ 15#4 ∧ rd + 1#4 ≠ 15#4 → r.Keeps) : (pairChecked rd r).Keeps :=
  .checked _ fun hd => h (pair_ne_pc rd hd)

theorem Addressed.loadDouble (h : Addressed rn x s) (rm : Option Reg) (hd : rd ≠ 15#4 ∧ rd + 1#4 ≠ 15#4) :
    (loadDouble rm s rn rd x).Keeps :=
  .checked _ fun _ => .checked _ fun _ => .checked _ fun _ =>
    (h.inv.load _ .word).bind fun _ _ ht => ((ht.setReg hd.1 _).load _ .word).bind fun _ _ hu =>
      (hu.setReg hd.2 _).writeback h.base _

theorem Addressed.storeDouble (h : Addressed rn x s) (rd : Reg) : (storeDouble s rn rd x).Keeps :=
  .checked _ fun _ => (h.inv.store _ .word _).bind fun _ _ ht => (ht.store _ .word _).bind fun _ _ hu =>
    hu.writeback h.base _

/-- An address without writeback. -/
theorem Inv.plain (h : Inv s) (rn : Reg) (a : Word) : Addressed rn (plain a) s := ⟨h, nofun⟩

/-- The base of a multiple transfer is not the program counter (R680). -/
theorem Inv.mode4 (h : Inv s) (p u : Bool) (rn : Reg) (list : BitVec 16) :
    (mode4 s p u rn list).Ends fun _ t => Inv t ∧ rn ≠ 15#4 :=
  .checked _ fun _ => .checked _ fun hb => ⟨h, by simpa using hb⟩

/-- The swaps' checks keep R15 out of the destination (R700). -/
theorem Res.Ends.swapChecks {rn rd rm : Reg} {sbz : BitVec 4} {r : Res Unit} (h : rd ≠ 15#4 → r.Keeps) :
    (swapChecks rn rd sbz rm r).Keeps :=
  .shouldBe (.checked _ fun hd => .checked _ fun _ => h (by rintro rfl; simp at hd))

/-- A Thumb list of low registers names no other. -/
theorem thumbList_lt {list : BitVec 8} {i : Nat} (h : i ∈ listed (thumbList false 0 list)) : i < 15 := by
  have hb : list.getLsbD i = true := by
    have := mem_listed.1 h
    simp [thumbList] at this
    exact this.2
  have : i < 8 := BitVec.lt_of_getLsbD hb
  omega

end LoadStore

/-! ### The system-control coprocessor -/

section Coprocessor
variable {s : State}

/-- Where every valid line is one that stood there before, no tag stands twice (R247). -/
theorem tagsDistinct_of_valid {s t : State} (h : tagsDistinct s)
    (hv : ∀ i v, ((t.ic.get i).lines.get v).valid = true → (t.ic.get i).lines.get v = (s.ic.get i).lines.get v) :
    tagsDistinct t := fun i v w ev ew et => by
  have lv := hv i v ev
  have lw := hv i w ew
  rw [lv] at ev et
  rw [lw] at ew et
  exact h i v w ev ew et

/-- A line an invalidate leaves valid is unchanged (R246). -/
theorem invalidateSet_get_of_valid {keep : CacheLine → Bool} {c : CacheSet} {w : Fin 4}
    (h : ((invalidateSet keep c).lines.get w).valid = true) : (invalidateSet keep c).lines.get w = c.lines.get w := by
  rw [invalidateSet_get] at h ⊢
  split at h
  next hk => rw [if_pos hk]
  · cases h

/-- The cache replaced by one that holds no tag twice. -/
theorem Inv.setCache (h : Inv s) {c : Vector CacheSet 64} (ht : tagsDistinct { s with ic := c }) :
    Inv { s with ic := c } := ⟨h.memory, h.mode, h.vectors, h.pc, h.pending, ht, h.events⟩

theorem Inv.invalidateAll (h : Inv s) : Inv (invalidateAll s) :=
  h.setCache <| tagsDistinct_of_valid h.tags fun i v hv => by
    have e := invalidateAll_get s i
    unfold Machine.invalidateAll at e
    rw [e] at hv ⊢
    exact invalidateSet_get_of_valid hv

theorem Inv.invalidateLine (h : Inv s) (a : Word) : Inv (invalidateLine s a) :=
  h.setCache <| tagsDistinct_of_valid h.tags fun i v hv => by
    have e := invalidateLine_get s a i
    unfold Machine.invalidateLine setCacheSet at e
    rw [e] at hv ⊢
    split at hv
    next hi =>
      rw [if_pos hi]
      exact invalidateSet_get_of_valid hv
    next hi => rw [if_neg hi]

/-- A write of CP15 keeps the invariant: the control word takes its vector base with it (R855). -/
theorem Inv.cp15Write (h : Inv s) (key : BitVec 16) (v : Word) : Inv (cp15Write s key v) := by
  unfold Machine.cp15Write
  split
  · exact ⟨h.memory, h.mode, rfl, h.pc, h.pending, h.tags, h.events⟩
  · split
    · exact h.invalidateAll
    · split
      · exact h.invalidateLine v
      · split
        · exact ⟨h.memory, h.mode, h.vectors, h.pc, h.pending, h.tags, h.events⟩
        · exact h

theorem Inv.cp15Access (h : Inv s) (cp : BitVec 4) {r : Res Unit} (hr : r.Keeps) : (cp15Access s cp r).Keeps := by
  unfold Machine.cp15Access
  split
  · exact h.raise _
  · exact hr

end Coprocessor

/-! ### Every instruction -/

/-- Every instruction keeps the invariant: each row through the shared operation its meaning ends in. -/
theorem exec_keeps_inv (i : Instr) {s : State} (h : Inv s) : OutKeeps (exec i s) := by
  unfold exec
  cases i with dsimp only
  -- data processing
  | andImmShift | eorImmShift | subImmShift | rsbImmShift | addImmShift | adcImmShift | sbcImmShift | rscImmShift
  | orrImmShift | bicImmShift => exact .runIf h fun _ ht => ht.dpImmShift ..
  | andRegShift | eorRegShift | subRegShift | rsbRegShift | addRegShift | adcRegShift | sbcRegShift | rscRegShift
  | orrRegShift | bicRegShift => exact .runIf h fun _ ht => ht.dpRegShift ..
  | andImm | eorImm | subImm | rsbImm | addImm | adcImm | sbcImm | rscImm | orrImm | bicImm =>
    exact .runIf h fun _ ht => ht.dpImm ..
  | tstImmShift | teqImmShift | cmpImmShift | cmnImmShift | movImmShift | mvnImmShift =>
    exact .runIf h fun _ ht => .shouldBe (ht.dpImmShift ..)
  | tstRegShift | teqRegShift | cmpRegShift | cmnRegShift | movRegShift | mvnRegShift =>
    exact .runIf h fun _ ht => .shouldBe (ht.dpRegShift ..)
  | tstImm | teqImm | cmpImm | cmnImm | movImm | mvnImm => exact .runIf h fun _ ht => .shouldBe (ht.dpImm ..)
  -- status access and saturating arithmetic
  | mrs cond r sbo rd sbz1 sbz2 =>
    refine .runIf h fun t ht => .shouldBe (.checked _ fun hd => ?_)
    have hrd : rd ≠ 15#4 := by simpa using hd
    split
    · exact .withSpsrBank fun b => ht.setReg hrd _
    · exact ht.setReg hrd _
  | msrReg => exact .runIf h fun _ ht => .shouldBe (.checked _ fun _ => ht.msrWrite ..)
  | msrImm => exact .runIf h fun _ ht => .shouldBe (ht.msrWrite ..)
  | clz => exact .runIf h fun _ ht => .shouldBe (.checked _ fun hd => ht.setReg (by rintro rfl; simp at hd) _)
  | qadd | qsub | qdadd | qdsub => exact .runIf h fun _ ht => .saturating fun hd => ht.saturated hd _ _
  -- multiplies
  | mul =>
    exact .runIf h fun _ ht =>
      .shouldBe (.checked _ fun hd => .checked _ fun _ => ht.product32 _ (by rintro rfl; simp at hd) _)
  | mla =>
    exact .runIf h fun _ ht => .checked _ fun hd => .checked _ fun _ => ht.product32 _ (by rintro rfl; simp at hd) _
  | umull | umlal | smull | smlal => exact .runIf h fun _ ht => .longChecks fun hh hl => ht.product64 _ hh hl _
  | smlaXY | smlawY => exact .runIf h fun _ ht => .checked _ fun hd => ht.accumulate32 (by rintro rfl; simp at hd) _
  | smulwY | smulXY =>
    exact .runIf h fun _ ht => .shouldBe (.checked _ fun hd => ht.setReg (by rintro rfl; simp at hd) _)
  | smlalXY =>
    exact .runIf h fun _ ht => .checked _ fun hd => .checked _ fun _ =>
      ht.product64 _ (by rintro rfl; simp at hd) (by rintro rfl; simp at hd) _
  -- swap
  | swp =>
    exact .runIf h fun _ ht => .swapChecks fun hd => (ht.loadRotated _).bind fun _ _ hu =>
      (hu.store _ .word _).bind fun _ _ hv => hv.setReg hd _
  | swpb =>
    exact .runIf h fun _ ht => .swapChecks fun hd => (ht.load _ .byte).bind fun _ _ hu =>
      (hu.store _ .byte _).bind fun _ _ hv => hv.setReg hd _
  -- addressing mode 2
  | ldrImmPre | ldrImmPost => exact .runIf h fun _ ht => (ht.mode2Imm ..).bind fun _ _ hx => hx.loadWord _
  | ldrRegPre | ldrRegPost => exact .runIf h fun _ ht => (ht.mode2Reg ..).bind fun _ _ hx => hx.loadWord _
  | ldrtImm => exact .runIf h fun _ ht => .checked _ fun _ => (ht.mode2Imm ..).bind fun _ _ hx => hx.loadWord _
  | ldrtReg => exact .runIf h fun _ ht => .checked _ fun _ => (ht.mode2Reg ..).bind fun _ _ hx => hx.loadWord _
  | ldrbImmPre | ldrbImmPost | ldrbtImm =>
    exact .runIf h fun _ ht => .checked _ fun hd => (ht.mode2Imm ..).bind fun _ _ hx => hx.loadByte (by simpa using hd)
  | ldrbRegPre | ldrbRegPost | ldrbtReg =>
    exact .runIf h fun _ ht => .checked _ fun hd => (ht.mode2Reg ..).bind fun _ _ hx => hx.loadByte (by simpa using hd)
  | strImmPre | strImmPost | strtImm =>
    exact .runIf h fun _ ht => (ht.mode2Imm ..).bind fun _ _ hx => hx.storeWord _
  | strRegPre | strRegPost | strtReg =>
    exact .runIf h fun _ ht => (ht.mode2Reg ..).bind fun _ _ hx => hx.storeWord _
  | strbImmPre | strbImmPost | strbtImm =>
    exact .runIf h fun _ ht => .checked _ fun _ => (ht.mode2Imm ..).bind fun _ _ hx => hx.storeNarrow _ _
  | strbRegPre | strbRegPost | strbtReg =>
    exact .runIf h fun _ ht => .checked _ fun _ => (ht.mode2Reg ..).bind fun _ _ hx => hx.storeNarrow _ _
  -- addressing mode 3
  | strhImm => exact .runIf h fun _ ht => .checked _ fun _ => (ht.mode3Imm ..).bind fun _ _ hx => hx.storeHalf _
  | strhReg => exact .runIf h fun _ ht => .checked _ fun _ => (ht.mode3Reg ..).bind fun _ _ hx => hx.storeHalf _
  | ldrdImm => exact .runIf h fun _ ht => .pairChecked fun hd => (ht.mode3Imm ..).bind fun _ _ hx => hx.loadDouble _ hd
  | ldrdReg => exact .runIf h fun _ ht => .pairChecked fun hd => (ht.mode3Reg ..).bind fun _ _ hx => hx.loadDouble _ hd
  | strdImm => exact .runIf h fun _ ht => .pairChecked fun _ => (ht.mode3Imm ..).bind fun _ _ hx => hx.storeDouble _
  | strdReg => exact .runIf h fun _ ht => .pairChecked fun _ => (ht.mode3Reg ..).bind fun _ _ hx => hx.storeDouble _
  | ldrhImm =>
    exact .runIf h fun _ ht => .checked _ fun hd => (ht.mode3Imm ..).bind fun _ _ hx => hx.loadHalf (by simpa using hd)
  | ldrhReg =>
    exact .runIf h fun _ ht => .checked _ fun hd => (ht.mode3Reg ..).bind fun _ _ hx => hx.loadHalf (by simpa using hd)
  | ldrsbImm =>
    exact .runIf h fun _ ht => .checked _ fun hd =>
      (ht.mode3Imm ..).bind fun _ _ hx => hx.loadSignedByte (by simpa using hd)
  | ldrsbReg =>
    exact .runIf h fun _ ht => .checked _ fun hd =>
      (ht.mode3Reg ..).bind fun _ _ hx => hx.loadSignedByte (by simpa using hd)
  | ldrshImm =>
    exact .runIf h fun _ ht => .checked _ fun hd =>
      (ht.mode3Imm ..).bind fun _ _ hx => hx.loadSignedHalf (by simpa using hd)
  | ldrshReg =>
    exact .runIf h fun _ ht => .checked _ fun hd =>
      (ht.mode3Reg ..).bind fun _ _ hx => hx.loadSignedHalf (by simpa using hd)
  -- multiple transfers
  | ldm1 cond p u w rn list =>
    refine .runIf h fun _ ht => (ht.mode4 ..).bind fun _ _ hx => .checked _ fun _ =>
      (hx.1.loadRegs (fun _ hi => listed_lt hi) _).bind fun _ _ hv => ?_
    split
    · exact (hv.load _ .word).bind fun _ _ hw => (hw.writeback (fun _ => hx.2) _).bxWritePc _
    · exact hv.writeback (fun _ => hx.2) _
  | ldm2 =>
    exact .runIf h fun _ ht => (ht.mode4 ..).bind fun _ _ hx => .checked _ fun _ => .checked _ fun _ =>
      (hx.1.loadEach (fun _ _ v hi hv => hv.setUserReg (ofNat_ne_pc (listed_lt hi)) v) _).bind fun _ _ hv => hv
  | ldm3 =>
    exact .runIf h fun _ ht => (ht.mode4 ..).bind fun _ _ hx => .checked _ fun _ =>
      (hx.1.loadRegs (fun _ hi => listed_lt hi) _).bind fun _ _ hv => (hv.load _ .word).bind fun _ _ hw =>
        (hw.writeback (fun _ => hx.2) _).exceptionReturn _
  | stm1 =>
    exact .runIf h fun _ ht => (ht.mode4 ..).bind fun _ _ hx => .checked _ fun _ =>
      (hx.1.storeEach ..).bind fun _ _ hv => hv.writeback (fun _ => hx.2) _
  | stm2 =>
    exact .runIf h fun _ ht => (ht.mode4 ..).bind fun _ _ hx => .checked _ fun _ => .checked _ fun _ =>
      (hx.1.storeEach ..).bind fun _ _ hv => hv
  -- branches and exceptions
  | b | tBCond => exact .runIf h fun _ ht => ht.branchWritePc _
  | bl => exact .runIf h fun _ ht => (ht.setReg (by decide) _).branchWritePc _
  | blxImm | tBlxSuffix => exact .run h fun _ ht => ((ht.setReg (by decide) _).jumpTo _).done
  | bx => exact .runIf h fun _ ht => .shouldBe (ht.bxWritePc _)
  | bxj => exact .runIf h fun _ ht => .shouldBe (.checked _ fun _ => ht.bxWritePc _)
  | blxReg => exact .runIf h fun _ ht => .shouldBe (.checked _ fun _ => (ht.setReg (by decide) _).bxWritePc _)
  | bkpt => exact .runIf h fun _ ht => .checked _ fun _ => ht.raise _
  | swi | ldcPre | ldcPost | ldcUnindexed | stcPre | stcPost | stcUnindexed | mcrr | mrrc | cdp | undefMulSpace01
  | undefSwapSpaceA | undefSwapSpaceB | undefSwapSpaceC | undefMisc0001 | undefMisc0010A | undefMisc0010B
  | undefMisc0011A | undefMisc0011B | undefMisc0100 | undefMisc0110 | undefMisc0111A | undefMisc0111B
  | undefMsrImmSpace | undefLsRegBit4 | undefCpLsSpace => exact .runIf h fun _ ht => ht.raise _
  | tSwi | tBkpt | tUndefB1 | tUndefB2B3 | tUndefB6B7 | tUndefB8Bb | tUndefBf | tUndefCondE | tUndefBlxOdd =>
    exact .run h fun _ ht => ht.raise _
  -- the system-control coprocessor
  | mcr => exact .runIf h fun _ ht => ht.cp15Access _ (.checked _ fun _ => ht.cp15Write _ _)
  | mrc cond opc1 crn rd cp opc2 crm =>
    refine .runIf h fun t ht => ht.cp15Access _ ?_
    dsimp only
    split
    · exact ht.setFlags (sameControl_mrcFlags _ _)
    next hd => exact ht.setReg hd _
  | pldImm | pldReg | cdp2 | mcr2 | mrc2 | ldc2 | stc2 | nvSkipped => exact .skipped h
  -- Thumb data processing
  | tLslImm | tLsrImm | tAsrImm => exact .run h fun _ ht => ht.thumbNZC _ _
  | tAddReg | tSubReg | tAddImm3 | tSubImm3 | tAddImm8 | tSubImm8 | tAdc | tSbc | tNeg =>
    exact .run h fun _ ht => ht.thumbArith _ _
  | tMovImm | tAnd | tEor | tOrr | tBic | tMvn => exact .run h fun _ ht => ht.thumbNZ _ _
  | tCmpImm | tCmpReg | tCmn => exact .run h fun _ ht => ht.thumbFlags _
  | tLslReg | tLsrReg | tAsrReg | tRor => exact .run h fun _ ht => ht.thumbShift _ _ _
  | tTst => exact .run h fun _ ht => (ht.setFlags (sameControl_withNZ _ _)).done
  | tMul => exact .run h fun _ ht => .checked _ fun _ => ht.thumbNZ _ _
  | tAddHi | tMovHi => exact .run h fun _ ht => .checked _ fun _ => ht.hiWrite _ _
  | tCmpHi => exact .run h fun _ ht => .checked _ fun _ => ht.thumbFlags _
  | tBx => exact .run h fun _ ht => .shouldBe (ht.bxWritePc _)
  | tBlxReg => exact .run h fun _ ht => .shouldBe (.checked _ fun _ => (ht.setReg (by decide) _).bxWritePc _)
  | tAddPc | tAddSp => exact .run h fun _ ht => (ht.setLow _ _).done
  | tAddSpImm | tSubSpImm | tBlPrefix => exact .run h fun _ ht => (ht.setReg (by decide) _).done
  | tB => exact .run h fun _ ht => ht.branchWritePc _
  | tBlSuffix => exact .run h fun _ ht => (ht.setReg (by decide) _).branchWritePc _
  -- Thumb loads and stores
  | tLdrPc | tLdrReg | tLdrImm | tLdrSp => exact .run h fun _ ht => (ht.plain _ _).loadWord _
  | tStrReg | tStrImm | tStrSp => exact .run h fun _ ht => (ht.plain _ _).storeWord _
  | tStrhReg | tStrhImm => exact .run h fun _ ht => (ht.plain _ _).storeHalf _
  | tStrbReg | tStrbImm => exact .run h fun _ ht => (ht.plain _ _).storeNarrow _ _
  | tLdrsbReg => exact .run h fun _ ht => (ht.plain _ _).loadSignedByte (lowReg_ne_pc _)
  | tLdrhReg | tLdrhImm => exact .run h fun _ ht => (ht.plain _ _).loadHalf (lowReg_ne_pc _)
  | tLdrbReg | tLdrbImm => exact .run h fun _ ht => (ht.plain _ _).loadByte (lowReg_ne_pc _)
  | tLdrshReg => exact .run h fun _ ht => (ht.plain _ _).loadSignedHalf (lowReg_ne_pc _)
  | tPush =>
    exact .run h fun _ ht => .checked _ fun _ => (ht.storeEach ..).bind fun _ _ hv => (hv.setReg (by decide) _).done
  | tPop r list =>
    refine .run h fun _ ht => .checked _ fun _ =>
      (ht.loadRegs (fun _ hi => (listed_lt hi).trans (by decide)) _).bind fun _ _ hv => ?_
    split
    · exact (hv.load _ .word).bind fun _ _ hw => (hw.setReg (by decide) _).bxWritePc _
    · exact hv.setReg (by decide) _
  | tStmia =>
    exact .run h fun _ ht => .checked _ fun _ => .checked _ fun _ =>
      (ht.storeEach ..).bind fun _ _ hv => (hv.setLow _ _).done
  | tLdmia =>
    exact .run h fun _ ht => .checked _ fun _ =>
      (ht.loadRegs (fun _ hi => thumbList_lt hi) _).bind fun _ _ hv => (hv.writeback (fun _ => lowReg_ne_pc _) _).done

/-! ### The step (R420-R432) -/

section Step
variable {s t : State}

/-- The step before its dispatch moves the program counter one width, which keeps it aligned (R405, R420). -/
theorem Inv.advance (h : Inv s) : Inv (advance s) := by
  have hp : pcAligned (Machine.setReg s 15#4 (reg s 15#4 + (instrWidth s).size)) := by
    obtain ⟨heven, hword⟩ := h.pc
    unfold instrWidth
    cases hT : flagT s with
    | true =>
      have := even_iff.1 heven
      refine pcAligned_setReg_pc (even_iff.2 ?_) fun e => by rw [hT] at e; cases e
      simp only [if_true, Width.size, Width.bytes, BitVec.toNat_add, BitVec.toNat_ofNat]
      omega
    | false =>
      have := aligned_iff.1 ⟨heven, hword hT⟩
      have ha : (reg s 15#4 + Width.word.size).toNat % 4 = 0 := by
        simp only [Width.size, Width.bytes, BitVec.toNat_add, BitVec.toNat_ofNat]
        omega
      exact pcAligned_setReg_pc (aligned_iff.2 ha).1 fun _ => (aligned_iff.2 ha).2
  have hs : Inv { Machine.setReg s 15#4 (reg s 15#4 + (instrWidth s).size) with
      curInstr := s.slot0, slot0 := s.slot1 } :=
    ⟨h.memory, h.mode, h.vectors, hp, h.pending, h.tags, h.events⟩
  unfold Machine.advance
  dsimp only
  split
  · obtain ⟨hm, hmode, hv, hpc, hpe, ht, he⟩ := hs.fetchThumbNext (reg s 15#4 + (instrWidth s).size)
    exact ⟨hm, hmode, hv, hpc, hpe, ht, he⟩
  · obtain ⟨hm, hmode, hv, hpc, hpe, ht, he⟩ := hs.fetchCode (reg s 15#4 + (instrWidth s).size) .word true
    exact ⟨hm, hmode, hv, hpc, hpe, ht, he⟩

theorem Inv.noteThumbStore (h : Inv t) (s : State) : Inv (noteThumbStore s t) := by
  unfold Machine.noteThumbStore
  split
  · dsimp only
    split
    · split
      · exact h
      · exact ⟨h.memory, h.mode, h.vectors, h.pc, h.pending, h.tags, h.events⟩
    · exact h
  · exact h

theorem Inv.stepInstr (h : Inv s) : OutKeeps (stepInstr s) := by
  have hx := exec_keeps_inv (curDecoded (Machine.advance s)) h.advance
  unfold Machine.stepInstr
  cases he : exec (curDecoded (Machine.advance s)) (Machine.advance s) with
  | next t =>
    rw [he] at hx
    exact Inv.noteThumbStore hx _
  | fault f => trivial
  | refused r => trivial

theorem Inv.endIteration (h : Inv s) : Inv (endIteration s) := by
  have hu : Inv (if s.irqLine && !flagI s then Machine.dispatchIrq s else s) := by
    split
    · exact h.dispatchIrq
    · exact h
  exact ⟨hu.memory, hu.mode, hu.vectors, hu.pc, hu.pending, hu.tags, hu.events⟩

/-- One iteration of the loop keeps the invariant (R430). -/
theorem Inv.iteration (h : Inv s) {x : Bool × State} (hx : iteration s = .next x) : Inv x.2 := by
  have hs := h.stepInstr
  unfold Machine.iteration at hx
  cases he : Machine.stepInstr s with
  | next t =>
    rw [he] at hs hx
    have ht : Inv t := hs
    dsimp only at hx
    split at hx <;> cases hx
    · exact ht.endIteration
    · exact ht
  | fault f => rw [he] at hx; cases hx
  | refused r => rw [he] at hx; cases hx

/-- The start of a burst keeps the invariant (R431). -/
theorem Inv.burstStart (h : Inv s) (hb : burstStart s = some t) : Inv t := by
  have hh : Inv { s with halt := .none } := ⟨h.memory, h.mode, h.vectors, h.pc, h.pending, h.tags, h.events⟩
  unfold Machine.burstStart at hb
  split at hb
  · cases hb
    exact h
  · cases hb
    exact hh
  · split at hb <;> cases hb
    split
    · exact hh
    · exact hh.dispatchIrq

/-- The step keeps the invariant (R420-R432). -/
theorem Inv.step (h : Inv s) (hs : step s = .next t) : Inv t := by
  unfold Machine.step stepMachine at hs
  split at hs
  · cases hs
  · split at hs
    · cases hs
      exact h
    next hb =>
      split at hs <;> cases hs
      next hi => exact (h.burstStart hb).iteration hi

end Step

/-- Settles O6: every operation a step is made of keeps the invariant, the jumps making the program counter aligned. -/
theorem stepKeepsInvariant : Obligations.StepKeepsInvariant := fun _ _ h hs => h.step hs

/-! ### The reset state (R160, R1300) -/

/-- Settles O5: no line of the cache is valid, and the slots are made from `EVENT_IDS`. -/
theorem resetHasInvariant : Obligations.ResetHasInvariant where
  memory := rfl
  mode := ⟨by decide, by decide⟩
  vectors := by unfold vectorsDerived; decide
  pc := ⟨by decide, fun _ => by decide⟩
  pending i _ := by simp [State.reset]
  tags i v w hv _ _ := by simp [State.reset, CacheSet.empty, CacheLine.invalid, Vector.get_eq_getElem] at hv
  events := ⟨by simp [State.reset, EventSlot.fresh, Config.params, Function.comp_def], eventIds_ascending⟩

/-- Caching is off at reset and the whole address space is flat, so a fetch costs and changes nothing else (R230). -/
theorem fetchCode_reset {s : State} (a : Word) (n : Width) (q : Bool) (hc : s.ctrl = 0x00050078#32)
    (hp : s.params = Config.params) (hm : s.mem = []) :
    fetchCode s a n q = (0#32, { s with codeCycles := Config.codeCost a n.bytes q }) := by
  have hf : flatRegion s.params a = some (0xFFFFFFFF#32, 0) := by
    have : regionHolds { base := 0#32, size := 2 ^ 32, kind := .flat 0xFFFFFFFF#32 0 } a = true := by
      simpa [regionHolds] using a.isLt
    rw [hp]
    simp only [flatRegion, Config.params, List.findSome?_cons, this, if_true]
    rfl
  have hr : flatRead [] (0xFFFFFFFF#32, 0) a n.bytes = 0#32 := by
    cases n <;> simp [flatRead, accessKeys, Memory.read, Width.bytes, leValue, List.range_succ]
  rw [fetchCode_flat n q (by rw [cachingActive, hc]; decide) hf, hm, hr]

/-- Settles O60: the cleared block of the reset state, and its first two fetches. -/
theorem resetIsCoreReset : Obligations.ResetIsCoreReset := by
  have hj : coreReset State.reset = refill (clearedBlock State.reset) 0#32 .word := rfl
  unfold Obligations.ResetIsCoreReset
  rw [hj]
  unfold refill chargedFetch
  rw [fetchCode_reset _ _ _ rfl rfl rfl]
  dsimp only
  rw [fetchCode_reset _ _ _ rfl rfl rfl]
  simp [clearedBlock, State.reset, setReg, Config.params, Width.size, Width.bytes, vectorBase]

end Sys2Proof.Machine
end

section
/-! PROOFS. The register banks (spec/10_state.md R103-R107): an exchange undoes itself (O52), and no
mode's registers are lost in a status write (O53). -/

namespace Sys2Proof.Machine

open Sys2Proof

/-! ### The exchanged part of a register file -/

/-- R13 and R14 of a register file. -/
def readTwo (r : Vector Word 16) : Vector Word 2 := Vector.ofFn fun i => r.get ⟨13 + i.val, by omega⟩

/-- R8 to R14 of a register file. -/
def readSeven (r : Vector Word 16) : Vector Word 7 := Vector.ofFn fun i => r.get ⟨8 + i.val, by omega⟩

theorem liveTwo_eq (s : State) : liveTwo s = readTwo s.regs := rfl

theorem liveSeven_eq (s : State) : liveSeven s = readSeven s.regs := rfl

section Files
variable (r : Vector Word 16) {i : Nat} (hi : i < 16)

theorem withTwo_get (b : Vector Word 2) :
    (withTwo r b)[i] = (if 13 ≤ i ∧ i ≤ 14 then b[i - 13]? else none).getD r[i] := by
  interval_cases i <;> simp [withTwo]

theorem withSeven_get (b : Vector Word 7) :
    (withSeven r b)[i] = (if 8 ≤ i ∧ i ≤ 14 then b[i - 8]? else none).getD r[i] := by
  interval_cases i <;> simp [withSeven]

theorem readTwo_get (b : Vector Word 2) : (if 13 ≤ i ∧ i ≤ 14 then (readTwo r)[i - 13]? else none) =
    (if 13 ≤ i ∧ i ≤ 14 then b[i - 13]? else none).map fun _ => r[i] := by
  interval_cases i <;> simp [readTwo, Vector.get_eq_getElem]

theorem readSeven_get (b : Vector Word 7) : (if 8 ≤ i ∧ i ≤ 14 then (readSeven r)[i - 8]? else none) =
    (if 8 ≤ i ∧ i ≤ 14 then b[i - 8]? else none).map fun _ => r[i] := by
  interval_cases i <;> simp [readSeven, Vector.get_eq_getElem]

theorem withTwo_restore (b : Vector Word 2) : withTwo (withTwo r b) (readTwo r) = r :=
  Vector.ext fun i hi => by
    interval_cases i <;> simp [withTwo, readTwo, Vector.get_eq_getElem]

theorem readTwo_withTwo (b : Vector Word 2) : readTwo (withTwo r b) = b :=
  Vector.ext fun i hi => by
    interval_cases i <;> simp [withTwo, readTwo, Vector.get_eq_getElem]

theorem withSeven_restore (b : Vector Word 7) : withSeven (withSeven r b) (readSeven r) = r :=
  Vector.ext fun i hi => by
    interval_cases i <;> simp [withSeven, readSeven, Vector.get_eq_getElem]

theorem readSeven_withSeven (b : Vector Word 7) : readSeven (withSeven r b) = b :=
  Vector.ext fun i hi => by
    interval_cases i <;> simp [withSeven, readSeven, Vector.get_eq_getElem]

end Files

/-! ### An exchange undoes itself -/

/-- The exchange of a bank is its own inverse (R104, R105). -/
theorem swapBank_swapBank (s : State) (b : Option BankMode) : swapBank (swapBank s b) b = s := by
  rcases b with _ | b
  · rfl
  · cases b <;> simp only [swapBank, liveTwo_eq, liveSeven_eq, withTwo_restore, readTwo_withTwo, withSeven_restore,
      readSeven_withSeven]

/-- Settles O52: the two exchanges of a switch are undone in the reverse order. -/
theorem switchModeRestores : Obligations.SwitchModeRestores := by
  intro s a b
  by_cases h : a = b
  · simp only [switchMode, h, if_true]
  · simp only [switchMode, if_neg h, if_neg (Ne.symm h), swapBank_swapBank]

/-! ### The registers by mode -/

/-- The live file after an exchange: the bank's registers, and the others as before (R104). -/
theorem reg_swapBank (s : State) (c : BankMode) (i : Reg) :
    reg (swapBank s (some c)) i = (bankReg s c i).getD (reg s i) := by
  cases c
  case fiq => exact withSeven_get s.regs i.isLt _
  all_goals exact withTwo_get s.regs i.isLt _

/-- The bank's store after an exchange: the live registers of its range (R104). -/
theorem bankReg_swapBank (s : State) (c : BankMode) (i : Reg) :
    bankReg (swapBank s (some c)) c i = (bankReg s c i).map fun _ => reg s i := by
  cases c
  case fiq => exact readSeven_get s.regs i.isLt _
  all_goals exact readTwo_get s.regs i.isLt _

/-- An exchange leaves every other bank alone. -/
theorem bankReg_swapBank_ne (s : State) {b : BankMode} {o : Option BankMode} (h : o ≠ some b) (i : Reg) :
    bankReg (swapBank s o) b i = bankReg s b i := by
  rcases o with _ | c
  · rfl
  · have hne : c ≠ b := fun e => h (congrArg some e)
    cases b <;> cases c <;> try rfl
    all_goals exact absurd rfl hne

/-- The user registers by the current mode's bank (R107). -/
theorem userReg_eq (s : State) (i : Reg) :
    userReg s i = ((bankOf (curMode s)).bind fun c => bankReg s c i).getD (reg s i) := by
  unfold userReg bankHolding
  cases bankOf (curMode s) with
  | none => rfl
  | some c => cases hr : bankReg s c i <;> simp [Option.filter, hr]

/-- The state with the current mode's bank exchanged out: the user registers live, every bank's own in its store. -/
def parked (s : State) : State := swapBank s (bankOf (curMode s))

theorem userReg_eq_parked (s : State) (i : Reg) : userReg s i = reg (parked s) i := by
  rw [userReg_eq, parked]
  cases bankOf (curMode s) with
  | none => rfl
  | some c => exact (reg_swapBank s c i).symm

/-- A bank's register in the parked state is its mode's own: the live one where that mode is current. -/
theorem bankReg_parked (s : State) (b : BankMode) (i : Reg) :
    bankReg (parked s) b i = (bankReg s b i).map fun v => if bankOf (curMode s) = some b then reg s i else v := by
  unfold parked
  by_cases h : bankOf (curMode s) = some b
  · simp only [h, if_true, bankReg_swapBank]
  · simp only [h, if_false, bankReg_swapBank_ne s h, Option.map_id']

/-- A status write changes the status of the parked state and nothing else of it (R112). -/
theorem parked_replaceCpsr (s : State) (v : Word) :
    parked (replaceCpsr s v) = { parked s with cpsr := setBit v 24 false } := by
  have hm : curMode (replaceCpsr s v) = modeOf v := by
    rw [curMode, replaceCpsr_cpsr, modeOf_setBit _ (by omega)]
  have hs : ∀ b, swapBank { s with cpsr := setBit v 24 false } b = { swapBank s b with cpsr := setBit v 24 false } := by
    intro b
    rcases b with _ | b
    · rfl
    · cases b <;> rfl
  unfold parked
  rw [hm, ← hs]
  unfold replaceCpsr switchMode
  split
  next e => rw [e]
  next => rw [swapBank_swapBank]

/-! ### Writes of user registers (R107) -/

/-- A write of a user register: to the current mode's bank where it holds the register, else to the live file. -/
theorem setUserReg_cases (s : State) (i : Reg) (w : Word) :
    (∃ c, bankOf (curMode s) = some c ∧ (bankReg s c i).isSome = true ∧ setUserReg s i w = setBankReg s c i w) ∨
      ((∀ c, bankOf (curMode s) = some c → bankReg s c i = none) ∧ setUserReg s i w = setReg s i w) := by
  unfold setUserReg bankHolding
  cases bankOf (curMode s) with
  | none => exact .inr ⟨nofun, rfl⟩
  | some c =>
    cases hr : bankReg s c i with
    | none => exact .inr ⟨by rintro _ ⟨⟩; exact hr, by simp [Option.filter, hr]⟩
    | some v => exact .inl ⟨c, rfl, by rw [hr]; rfl, by simp [Option.filter, hr]⟩

theorem setBankReg_regs (s : State) (c : BankMode) (i : Reg) (w : Word) : (setBankReg s c i w).regs = s.regs := by
  cases c <;> rfl

theorem setBankReg_cpsr (s : State) (c : BankMode) (i : Reg) (w : Word) : (setBankReg s c i w).cpsr = s.cpsr := by
  cases c <;> rfl

theorem setUserReg_cpsr (s : State) (i : Reg) (w : Word) : (setUserReg s i w).cpsr = s.cpsr := by
  rcases setUserReg_cases s i w with ⟨c, -, -, h⟩ | ⟨-, h⟩ <;> rw [h]
  · exact setBankReg_cpsr s c i w
  · rfl

/-- A user register reads as written, and every other as before (R107). -/
theorem userReg_setUserReg (s : State) (i j : Reg) (w : Word) :
    userReg (setUserReg s i w) j = if j = i then w else userReg s j := by
  have hm : curMode (setUserReg s i w) = curMode s := by rw [curMode, setUserReg_cpsr, curMode]
  rw [userReg_eq, userReg_eq, hm]
  rcases setUserReg_cases s i w with ⟨c, hc, hs, h⟩ | ⟨hn, h⟩ <;> rw [h]
  · rw [hc, Option.bind_some, Option.bind_some, bankReg_setBankReg s w hs, reg_congr (setBankReg_regs s c i w)]
    split <;> rfl
  · have hb : ∀ c, bankReg (setReg s i w) c j = bankReg s c j := fun c => by cases c <;> rfl
    simp only [hb, reg_setReg]
    split
    next e =>
      subst e
      cases hc : bankOf (curMode s) with
      | none => rfl
      | some c => rw [Option.bind_some, hn c hc, Option.getD_none]
    · rfl

/-- Settles O53: each mode's own registers and the user registers are those of the parked state, which a status write
keeps. -/
theorem modesKeepTheirRegisters : Obligations.ModesKeepTheirRegisters := by
  unfold Obligations.ModesKeepTheirRegisters
  intro own s v b i _
  have hown : ∀ t, own t b i = (bankReg (parked t) b i).getD (reg (parked t) i) := by
    intro t
    rw [bankReg_parked, ← userReg_eq_parked]
    simp only [own]
    cases bankReg t b i <;> rfl
  have hbank : ∀ t w, bankReg { t with cpsr := w } b i = bankReg t b i := fun t w => by cases b <;> rfl
  refine ⟨?_, ?_, fun w => ⟨?_, fun j hj => ?_⟩⟩
  · rw [hown, hown, parked_replaceCpsr, hbank]
    rfl
  · rw [userReg_eq_parked, userReg_eq_parked, parked_replaceCpsr]
    rfl
  · rw [userReg_setUserReg, if_pos rfl]
  · rw [userReg_setUserReg, if_neg hj]

end Sys2Proof.Machine
end

section
/-! PROOFS. The multiple transfers of the user registers, and the multiple stores (R680-R685):
O35 and O37. -/

namespace Sys2Proof.Machine

open Sys2Proof Sys2Proof.Claims

/-! ### Words of flat memory (R205, R206) -/

theorem flatRead_word (s : State) (f : Word × Nat) (a : Word) : flatRead s.mem f a 4 = word4At s f a := by
  simp [flatRead, accessKeys, List.range_succ, leValue_four, word4At, byteAt]

theorem word_of_bytes (v : Word) : byteOf v 3 ++ byteOf v 2 ++ byteOf v 1 ++ byteOf v 0 = v := by
  ext i hi
  simp only [byteOf, BitVec.getElem_append, BitVec.getElem_setWidth, BitVec.getLsbD_ushiftRight]
  split_ifs <;> (rw [← BitVec.getLsbD_eq_getElem]; congr 1; omega)

/-- Four bytes that are a word's make the word. -/
theorem word4At_of_bytes {t : State} {f : Word × Nat} {a v : Word}
    (h : ∀ k, k < 4 → t.mem.read (storageKey f (a + BitVec.ofNat 32 k)) = byteOf v k) : word4At t f a = v := by
  have h0 := h 0 (by omega)
  rw [BitVec.add_zero] at h0
  rw [word4At, byteAt, byteAt, byteAt, byteAt, h0, h 1 (by omega), h 2 (by omega), h 3 (by omega), word_of_bytes]

/-! ### The operands of a multiple transfer (R680) -/

theorem firstOf_eq_none {l : List (Bool × Fault)} : firstOf l = none ↔ ∀ c ∈ l, c.1 = false := by
  simp [firstOf]

theorem listCases_none {rn : Reg} {list : BitVec 16} {b : Bool} {e : Fault}
    (h : firstOf (listCases rn list ++ [(b, e)]) = none) :
    (list == 0#16) = false ∧ (rn == 15#4) = false ∧ b = false := by
  simpa [listCases] using firstOf_eq_none.1 h

/-- Addressing mode 4 of a legal list and base (R680). -/
theorem mode4_legal (s : State) (p u : Bool) {rn : Reg} {list : BitVec 16} (hl : (list == 0#16) = false)
    (hr : (rn == 15#4) = false) :
    mode4 s p u rn list =
      .ok (multipleStart s p u rn (popcount list), multipleEnd s p u rn (popcount list)) s := by
  have hb : ∀ b k, multipleBounds p u b k = transferPair p u b k := fun b k => by cases p <;> cases u <;> rfl
  rw [mode4, hl, hr, unpredictableIf_false, unpredictableIf_false, hb]
  rfl

/-- The modes without a bank are USR and SYS (R111, R682). -/
theorem bankOf_eq_none_iff : ∀ m : BitVec 5, validMode m = true →
    (m == 0x10#5 || m == 0x1F#5) = (bankOf m).isNone := by decide

theorem userBankMode {s : State} (h : modeLegal s) :
    (isUser s || curMode s == 0x1F#5) = (bankOf (curMode s)).isNone := bankOf_eq_none_iff _ h.1

/-! ### Stores (R684, R685) -/

theorem Frame.writeback {regs : List Reg} {bits keys : List Nat} {s t : State} (h : Frame regs bits keys s t) {wb : Bool}
    {rn : Reg} (hw : wb = true → rn ∈ regs) (m : Word) : Frame regs bits keys s (writeback t wb rn m) := by
  unfold Machine.writeback
  split
  next e => exact h.setReg m (hw e)
  · exact h

theorem writeback_mem (s : State) (wb : Bool) (rn : Reg) (m : Word) : (writeback s wb rn m).mem = s.mem := by
  cases wb <;> rfl

theorem mem_baseList {wb : Bool} {rn : Reg} (h : wb = true) : rn ∈ baseList wb rn := by simp [baseList, h]

/-- The bytes of a list of stores are a matter of memory alone. -/
theorem storesList_congr {m : Nat} {list : BitVec m} {f : Word × Nat} {a : Word} {get : Reg → Word} {t u : State}
    (h : storesList list f a get t) (hm : u.mem = t.mem) : storesList list f a get u := fun j i hj => by
  rw [← h j i hj, word4At, word4At, byteAt, byteAt, byteAt, byteAt, hm]
  rfl

/-- The listed registers stored to flat memory (R680). -/
theorem storeEach_list {get : State → Reg → Word} (list : BitVec 16) {s : State} {f : Word × Nat} {a : Word}
    (hg : ∀ s m c d, get { s with mem := m, dataCycles := c, dataCosts := d } = get s) (hm : memoryCanonical s)
    (h : wordsWritable s f a (popcount list)) :
    ∃ b t, storeEach get (listed list) a s = .ok b t ∧ Frame [] [] (wordsKeys f a (popcount list)) s t ∧
      storesList list f a (get s) t := by
  obtain ⟨t, ht, -, hf, hb⟩ := storeEach_flat hg hm h.1 h.2
  exact ⟨_, t, ht, hf, fun j i hj => word4At_of_bytes (hb j i hj)⟩

theorem storedReg_eq (s : State) (i : Reg) : storedReg s i = storedValue s i := by
  unfold storedReg storedValue instrAddr
  split
  · cases flagT s <;> rfl
  · rfl

/-- STM(1) to flat memory (R684). -/
theorem stm1_completes {s : State} {cond : BitVec 4} {p u w : Bool} {rn : Reg} {list : BitVec 16} {f : Word × Nat}
    (hc : passes s cond) (hm : memoryCanonical s) (hu : unpredictableForm (.stm1 cond p u w rn list) = none)
    (hw : wordsWritable s f (multipleStart s p u rn (popcount list)) (popcount list)) :
    completes (.stm1 cond p u w rn list) s fun t =>
      Frame (baseList w rn) [] (wordsKeys f (multipleStart s p u rn (popcount list)) (popcount list)) s t ∧
      storesList list f (multipleStart s p u rn (popcount list)) (storedValue s) t ∧
      basesMoved w rn (multipleEnd s p u rn (popcount list)) t := by
  obtain ⟨hl, hr, hb⟩ := listCases_none hu
  obtain ⟨b, t, ht, hf, hs⟩ := storeEach_list (get := storedReg) list (s := begun s) (fun _ _ _ _ => rfl) hm hw
  have hbody := congrArg (fun r => r.bind fun _ t => done (writeback t w rn (multipleEnd s p u rn (popcount list)))) ht
  refine completes_runIf (t := writeback t w rn (multipleEnd s p u rn (popcount list))) rfl hc ?_ ⟨?_, ?_, ?_⟩
  · rw [mode4_legal (begun s) p u hl hr, Res.bind_ok, hb, unpredictableIf_false]
    exact hbody
  · have hframe := ((Frame.begun s).trans hf).mono (List.nil_subset (baseList w rn)) (fun _ h => h) fun _ h => h
    exact (hframe.writeback mem_baseList _).charged s
  · rw [show storedValue s = storedReg (begun s) from funext fun i => (storedReg_eq s i).symm]
    exact storesList_congr hs (writeback_mem t w rn _)
  · intro e
    rw [reg_charged, e]
    exact reg_setReg_same _ _ _

/-- STM(2) to flat memory in a mode with a bank (R685). -/
theorem stm2_completes {s : State} {cond : BitVec 4} {p u : Bool} {rn : Reg} {list : BitVec 16} {f : Word × Nat}
    (hc : passes s cond) (hm : memoryCanonical s) (hu : unpredictableForm (.stm2 cond p u false rn list) = none)
    (hmode : (isUser s || curMode s == 0x1F#5) = false)
    (hw : wordsWritable s f (multipleStart s p u rn (popcount list)) (popcount list)) :
    completes (.stm2 cond p u false rn list) s fun t =>
      Frame [] [] (wordsKeys f (multipleStart s p u rn (popcount list)) (popcount list)) s t ∧
      storesList list f (multipleStart s p u rn (popcount list))
        (fun i => if i = 15#4 then storedValue s i else userReg s i) t := by
  obtain ⟨hl, hr, -⟩ := listCases_none hu
  obtain ⟨b, t, ht, hf, hs⟩ := storeEach_list (get := storedUserReg) list (s := begun s) (fun _ _ _ _ => rfl) hm hw
  refine completes_runIf (t := t) rfl hc ?_ ⟨((Frame.begun s).trans hf).charged s, ?_⟩
  · rw [mode4_legal (begun s) p u hl hr, Res.bind_ok, unpredictableIf_false,
      show (isUser (begun s) || curMode (begun s) == 0x1F#5) = false from hmode, unpredictableIf_false]
    exact congrArg (fun r => r.bind fun _ t => done t) ht
  · have hget : (fun i => if i = 15#4 then storedValue s i else userReg s i) = storedUserReg (begun s) := by
      funext i
      unfold storedUserReg
      split
      · exact (storedReg_eq s i).symm
      · rfl
    rw [hget]
    exact storesList_congr hs rfl

/-- LDM(2) and STM(2) of a legal form stop in a mode without a bank (R682, R685). -/
theorem userBank_faults {s : State} {i : Instr} {cond : BitVec 4} {p u : Bool} {rn : Reg} {list : BitVec 16}
    {rest : Word × Word → State → Res Unit} (hc : passes s cond) (hl : (list == 0#16) = false)
    (hr : (rn == 15#4) = false) (hmode : (isUser s || curMode s == 0x1F#5) = true)
    (hx : exec i s = runIf cond s fun s => (mode4 s p u rn list).bind fun x s => unpredictableIf false .userBankWriteback <|
      unpredictableIf (isUser s || curMode s == 0x1F#5) .userBankMode (rest x s)) :
    exec i s = .fault .userBankMode := by
  refine faults_runIf hx hc ?_
  rw [mode4_legal (begun s) p u hl hr, Res.bind_ok, unpredictableIf_false,
    show (isUser (begun s) || curMode (begun s) == 0x1F#5) = true from hmode, unpredictableIf_true]

/-- Settles O37: the stores of a list of registers, each read as its form reads it. -/
theorem storeMultiple : Obligations.StoreMultiple := by
  intro s cond p u w rn list f hc hm hmode
  refine ⟨fun hu hw => stm1_completes hc hm hu hw, fun hu => ?_⟩
  have hub := userBankMode hmode
  split
  next hb =>
    rw [hb] at hub
    obtain ⟨hl, hr, -⟩ := listCases_none hu
    exact userBank_faults hc hl hr hub rfl
  next hb =>
    rw [hb] at hub
    exact fun hw => stm2_completes hc hm hu hub hw

/-! ### Loads of the user registers (R682) -/

end Sys2Proof.Machine

namespace Sys2Proof.Claims

open Sys2Proof Sys2Proof.Machine

section UserFrames
variable {c : BankMode} {l : List Reg} {s t u : State}

theorem UserFrame.refl (s : State) : UserFrame c l s s :=
  ⟨fun _ _ => rfl, fun _ _ => rfl, fun _ _ _ => rfl, rfl, fun _ _ => rfl, fun _ _ => rfl, .refl s, .refl s, .refl s⟩

theorem UserFrame.trans (h : UserFrame c l s t) (g : UserFrame c l t u) : UserFrame c l s u where
  user i hi := (g.user i hi).trans (h.user i hi)
  live i hi := (g.live i (hi.imp_left fun e => bankReg_isSome s t c i ▸ e)).trans (h.live i hi)
  otherBanks b i hb := (g.otherBanks b i hb).trans (h.otherBanks b i hb)
  status := g.status.trans h.status
  spsr b hb := (g.spsr b hb).trans (h.spsr b hb)
  bytes k hk := (g.bytes k hk).trans (h.bytes k hk)
  system := h.system.trans g.system
  cache := h.cache.trans g.cache
  devices := h.devices.trans g.devices

theorem UserFrame.mono {l' : List Reg} (h : UserFrame c l s t) (hl : l ⊆ l') : UserFrame c l' s t :=
  { h with
    user := fun i hi => h.user i fun m => hi (hl m)
    live := fun i hi => h.live i (hi.imp_right fun n m => n (hl m)) }

/-- The cost counters are outside the frame. -/
theorem UserFrame.costs (s : State) (n d : Nat) (x : List Nat) :
    UserFrame c l s { s with cycles := n, dataCycles := d, dataCosts := x } where
  user _ _ := rfl
  live _ _ := rfl
  otherBanks b _ _ := by cases b <;> rfl
  status := rfl
  spsr b _ := by cases b <;> rfl
  bytes _ _ := rfl
  system := by constructor <;> rfl
  cache := by constructor <;> rfl
  devices := by constructor <;> rfl

/-- A listed user register written in a mode with bank `c` (R107). -/
theorem UserFrame.setUserReg (hc : bankOf (curMode s) = some c) {i : Reg} (hi : i ∈ l) (w : Word) :
    UserFrame c l s (setUserReg s i w) := by
  have huser : ∀ j, j ∉ l → userReg (Machine.setUserReg s i w) j = userReg s j := fun j hj => by
    rw [userReg_setUserReg, if_neg]
    rintro rfl
    exact hj hi
  rcases setUserReg_cases s i w with ⟨c', hc', hs, e⟩ | ⟨hn, e⟩
  · obtain rfl : c' = c := Option.some.inj (hc'.symm.trans hc)
    rw [e] at huser ⊢
    refine ⟨huser, fun j _ => reg_congr (setBankReg_regs s c' i w) j, fun b j hb => bankReg_setBankReg_ne s i w j hb,
      setBankReg_cpsr s c' i w, fun b _ => ?_, fun k _ => ?_, ?_, ?_, ?_⟩
    · cases c' <;> cases b <;> rfl
    · cases c' <;> rfl
    all_goals cases c' <;> constructor <;> rfl
  · rw [e] at huser ⊢
    refine ⟨huser, fun j hj => reg_setReg_ne s w ?_, fun b j _ => by cases b <;> rfl, rfl, fun b _ => by cases b <;> rfl,
      fun _ _ => rfl, by constructor <;> rfl, by constructor <;> rfl, by constructor <;> rfl⟩
    rintro rfl
    rcases hj with hj | hj
    · rw [hn c hc] at hj
      cases hj
    · exact hj hi

end UserFrames

end Sys2Proof.Claims

namespace Sys2Proof.Machine

open Sys2Proof Sys2Proof.Claims

section UserLoads
variable {c : BankMode} {s : State}

theorem setUserReg_mem (s : State) (i : Reg) (w : Word) : (Machine.setUserReg s i w).mem = s.mem := by
  rcases setUserReg_cases s i w with ⟨c, -, -, e⟩ | ⟨-, e⟩ <;> rw [e]
  · cases c <;> rfl
  · rfl

/-- User registers loaded from flat memory (R682): each takes the word at its place. `v j` is the j-th word. -/
theorem loadEach_user {r : List Nat} {a : Word} (v : Nat → Word) (hc : bankOf (curMode s) = some c) (hn : r.Nodup)
    (hr : ∀ i ∈ r, i < 16)
    (hv : ∀ j, j < r.length → ∃ f, flatAccess s f (a + BitVec.ofNat 32 (4 * j)) .word false ∧
      v j = flatRead s.mem f (a + BitVec.ofNat 32 (4 * j)) 4) :
    ∃ b t, loadEach setUserReg r a s = .ok b t ∧ UserFrame c (r.map fun i => BitVec.ofNat 4 i) s t ∧
      ∀ j i, r[j]? = some i → userReg t (BitVec.ofNat 4 i) = v j := by
  induction r generalizing a s v with
  | nil => exact ⟨a, s, rfl, .refl s, fun j i h => by simp at h⟩
  | cons i r ih =>
    rw [List.nodup_cons] at hn
    obtain ⟨f, ⟨hf, hb⟩, hv0⟩ := hv 0 (by simp)
    rw [Nat.mul_zero, BitVec.add_zero] at hf hb hv0
    set t := Machine.setUserReg (recordAccess s a .word) (BitVec.ofNat 4 i) (v 0) with ht
    have hrec : UserFrame c ((i :: r).map fun i => BitVec.ofNat 4 i) s (recordAccess s a .word) := .costs s _ _ _
    have hset : UserFrame c ((i :: r).map fun i => BitVec.ofNat 4 i) (recordAccess s a .word) t :=
      .setUserReg (s := recordAccess s a .word) hc (by simp) _
    have hst := hrec.trans hset
    have hmem : t.mem = s.mem := setUserReg_mem ..
    have hmode : bankOf (curMode t) = some c := by rw [curMode, hst.status]; exact hc
    obtain ⟨b, u, hu, hfr, hw⟩ := ih (a := a + 4#32) (s := t) (fun j => v (j + 1)) hmode hn.2
      (fun j hj => hr j (List.mem_cons_of_mem _ hj)) fun j hj => by
        obtain ⟨g, hg, hw⟩ := hv (j + 1) (by simpa using hj)
        rw [← add_four_step] at hg hw
        exact ⟨g, by unfold flatAccess; rw [hst.system.params]; exact hg, by rw [hmem]; exact hw⟩
    refine ⟨b, u, ?_, hst.trans (hfr.mono (List.subset_cons_self _ _)), fun j k hk => ?_⟩
    · rw [loadEach, load_flat hb hf, Res.bind_ok, show flatRead s.mem f a Width.word.bytes = v 0 from hv0.symm]
      exact hu
    · cases j with
      | zero =>
        simp only [List.getElem?_cons_zero, Option.some.injEq] at hk
        subst hk
        rw [hfr.user _ fun m => ?_, ht, userReg_setUserReg, if_pos rfl]
        obtain ⟨k, hk, e⟩ := List.mem_map.1 m
        exact hn.1 (ofNat4_inj (hr k (by simp [hk])) (hr i (by simp)) e ▸ hk)
      | succ j => exact hw j k (by simpa using hk)

end UserLoads

/-- A list with R15 left out lists what its low bits list (R682). -/
theorem listed_fullList (list : BitVec 15) : listed (fullList false list) = listed list := by
  have low : ∀ i, i < 15 → (fullList false list).getLsbD i = list.getLsbD i := fun i hi => by
    rw [fullList, BitVec.getLsbD_append, if_pos hi]
  have top : (fullList false list).getLsbD 15 = false := by
    rw [fullList, BitVec.getLsbD_append]
    rfl
  unfold listed
  rw [List.range_succ, List.filter_append, List.filter_singleton, top]
  simp only [Bool.cond_false, List.append_nil]
  exact List.filter_congr fun i hi => low i (List.mem_range.1 hi)

/-- The word at a readable address (R205). -/
theorem wordFrom_eq {s : State} {f : Word × Nat} {a : Word} (h : flatRegion s.params a = some f) :
    wordFrom s a = flatRead s.mem f a 4 := by
  rw [wordFrom, h, flatRead_word]

/-- LDM(2) from flat memory in a mode with a bank (R682). -/
theorem ldm2_completes {s : State} {cond : BitVec 4} {p u : Bool} {rn : Reg} {list : BitVec 15} {c : BankMode}
    (hc : passes s cond) (hu : unpredictableForm (.ldm2 cond p u false rn list) = none)
    (hmode : (isUser s || curMode s == 0x1F#5) = false) (hb : bankOf (curMode s) = some c)
    (hw : wordsReadable s (multipleStart s p u rn (popcount list)) (popcount list)) :
    completes (.ldm2 cond p u false rn list) s fun t =>
      UserFrame c (listRegs list) s t ∧ ∀ j i, (listed list)[j]? = some i →
        userReg t (BitVec.ofNat 4 i) =
          wordFrom s (multipleStart s p u rn (popcount list) + BitVec.ofNat 32 (4 * j)) := by
  obtain ⟨hl, hr, -⟩ := listCases_none (list := fullList false list) hu
  have hk : popcount (fullList false list) = popcount list := by rw [popcount, listed_fullList, popcount]
  obtain ⟨b, t, ht, hf, hv⟩ := loadEach_user (s := begun s)
    (fun j => wordFrom s (multipleStart s p u rn (popcount list) + BitVec.ofNat 32 (4 * j))) hb (listed_nodup list)
    (fun i hi => (listed_lt hi).trans (by decide)) fun j hj => by
      obtain ⟨f, hf⟩ := hw j hj
      exact ⟨f, hf, wordFrom_eq hf.1⟩
  refine completes_runIf (t := t) rfl hc ?_ ⟨((UserFrame.costs s _ _ _).trans hf).trans (.costs t _ _ _), hv⟩
  rw [mode4_legal (begun s) p u hl hr, Res.bind_ok, unpredictableIf_false,
    show (isUser (begun s) || curMode (begun s) == 0x1F#5) = false from hmode, unpredictableIf_false, hk]
  exact congrArg (fun r => r.bind fun _ t => done t) ht

/-- Settles O35: the loads of a list of user registers. -/
theorem loadMultipleUser : Obligations.LoadMultipleUser := by
  intro s cond p u rn list hc hmode hu
  have hub := userBankMode hmode
  dsimp only
  split
  next hb =>
    rw [hb] at hub
    obtain ⟨hl, hr, -⟩ := listCases_none hu
    exact userBank_faults hc hl hr hub rfl
  next c hb =>
    rw [hb] at hub
    exact fun hw => ldm2_completes hc hu hub hb hw

end Sys2Proof.Machine
end

section
/-! PROOFS. The scheduler's pass (spec/60_exceptions.md R1213-R1216): O58. -/

namespace Sys2Proof.Machine

open Sys2Proof Sys2Proof.Claims

/-! ### What no callback changes -/

/-- The engine's time and the time marker are unchanged. -/
structure TimeKept (s t : State) : Prop where
  now : t.now = s.now
  marker : t.sched.sysTime = s.sched.sysTime

theorem TimeKept.refl (s : State) : TimeKept s s := ⟨rfl, rfl⟩

theorem TimeKept.trans {s t u : State} (h : TimeKept s t) (g : TimeKept t u) : TimeKept s u :=
  ⟨g.now.trans h.now, g.marker.trans h.marker⟩

theorem TimeKept.of_calls {s t : State} (k : CallsKeep s t) (h : t.sched.sysTime = s.sched.sysTime) : TimeKept s t :=
  ⟨k.now, h⟩

theorem scheduleEvent_marker (s : State) (id : Nat) (k : EventKind) (d cb : Nat) (p : Word) :
    (scheduleEvent s id k d cb p).sched.sysTime = s.sched.sysTime := by
  unfold scheduleEvent
  split
  · rfl
  · split <;> rfl

theorem runCall_marker (s : State) (c : Call) : (runCall s c).sched.sysTime = s.sched.sysTime := by
  cases c with
  | irq l => exact congrArg Sched.sysTime (setIrq_sched s l)
  | ack t => exact congrArg Sched.sysTime (acknowledgeIrq_sched s t)
  | ctl l b => exact congrArg Sched.sysTime (writeCtl_sched s l b)
  | sched id k d cb p => exact scheduleEvent_marker s id k d cb p
  | cancel id => rfl
  | halt1 => rfl

theorem runCalls_marker (s : State) (l : List Call) : (runCalls s l).sched.sysTime = s.sched.sysTime := by
  induction l generalizing s with
  | nil => rfl
  | cons c r ih => exact (ih _).trans (runCall_marker s c)

theorem takeAnswer_sched (s : State) (a : Word) (n : Nat) : (takeAnswer s a n).2.sched = s.sched := by
  unfold takeAnswer
  split <;> rfl

theorem busRead_timeKept (s : State) (a : Word) (n : Nat) : TimeKept s (busRead s a n).2 := by
  refine .of_calls (busRead_keeps s a n) ?_
  unfold busRead
  split
  · rfl
  · split
    · rfl
    · split
      · exact (runCalls_marker _ _).trans (congrArg Sched.sysTime (takeAnswer_sched s a n))
      · rfl

theorem intcWriteAt_sched {s t : State} {a v : Word} (h : intcWriteAt s a v = some t) : t.sched = s.sched := by
  obtain ⟨r, _, hr⟩ := List.exists_of_findSome?_eq_some h
  split at hr
  · cases hp : r.port <;> simp only [hp, intcWrite, Option.some.injEq, reduceCtorEq] at hr <;> subst hr
    · exact setIrq_sched _ _
    · exact acknowledgeIrq_sched _ _
    · exact writeCtl_sched _ _ _
  · cases hr

theorem busWrite_timeKept (s : State) (a : Word) (n : Nat) (v : Word) : TimeKept s (busWrite s a n v) := by
  have hnow : (busWrite s a n v).now = s.now := by
    rcases busWrite_cases s a n v with ⟨f, -, h⟩ | ⟨-, k⟩
    · rw [h]
    · exact k.now
  refine ⟨hnow, ?_⟩
  unfold busWrite
  split
  · rfl
  · split
    next h => exact congrArg Sched.sysTime (intcWriteAt_sched h)
    next =>
      split
      · exact (runCalls_marker _ _).trans (congrArg Sched.sysTime (takeAnswer_sched s a n))
      · rfl

theorem runCallbackAction_timeKept (s : State) (x : CallbackAction) : TimeKept s (runCallbackAction s x) := by
  cases x with
  | call c => exact .of_calls (runCall_keeps s c) (runCall_marker s c)
  | read a n => exact busRead_timeKept s a n.bytes
  | write a n v => exact busWrite_timeKept s a n.bytes v

/-- A fold of operations that keep time keeps time. -/
theorem TimeKept.foldl {α : Type} {f : State → α → State} (hf : ∀ s x, TimeKept s (f s x)) (l : List α) (s : State) :
    TimeKept s (l.foldl f s) := by
  induction l generalizing s with
  | nil => exact .refl s
  | cons x r ih => exact (hf s x).trans (ih _)

theorem fireEvent_timeKept (start : List Nat) (time : Nat) (s : State) (id : Nat) :
    TimeKept s (fireEvent start time s id) := by
  unfold fireEvent
  split
  · split
    · refine .trans ?_ (.foldl runCallbackAction_timeKept _ _)
      exact ⟨rfl, rfl⟩
    · exact .refl s
  · exact .refl s

/-- A pass moves the time marker, ends its record of schedules and lets no time pass (R1213). -/
theorem runSystem_times (s : State) (time : Nat) : (runSystem s time).sched.sysTime = time ∧
    (runSystem s time).sched.scheduledInPass = none ∧ (runSystem s time).now = s.now := by
  have k := TimeKept.foldl (fireEvent_timeKept ((s.sched.slots.filter fun e => e.pending).map fun e => e.id) time)
    (s.sched.slots.map fun e => e.id)
    { s with sched := { s.sched with sysTime := time, scheduledInPass := some [] } }
  exact ⟨k.marker, rfl, k.now⟩

/-! ### One slot of a pass -/

/-- A slot whose event has fired (R1213). -/
def cleared (e : EventSlot) : EventSlot := { e with pending := false }

/-- The event fires when the pass reaches it (R1213): pending at the start, still pending, not scheduled in the pass,
and due. -/
def ready (start scheduled : List Nat) (time : Nat) (e : EventSlot) : Bool :=
  start.contains e.id && e.pending && !scheduled.contains e.id && decide (e.time ≤ time)

/-- A slot after the pass has reached it. -/
def firedIf (p : EventSlot → Bool) (e : EventSlot) : EventSlot := if p e then cleared e else e

theorem fired_eq (time : Nat) : fired time = firedIf (due time) := rfl

theorem firedIf_id (p : EventSlot → Bool) (e : EventSlot) : (firedIf p e).id = e.id := by
  unfold firedIf
  split <;> rfl

/-- The ids scheduled in the pass so far. -/
abbrev scheduled (s : State) : List Nat := s.sched.scheduledInPass.getD []

/-- The pass at a slot (R1213). -/
theorem fireEvent_eq {u : State} {e : EventSlot} (start : List Nat) (time : Nat) (ha : (slotIds u).Pairwise (· < ·))
    (he : e ∈ u.sched.slots) : fireEvent start time u e.id =
      if ready start (scheduled u) time e then runCallback (updateSlot u e.id cleared) e.cb e.param else u := by
  rw [fireEvent, eventSlot_of_mem ha he]
  rfl

/-- An update by id changes the one slot of that id. -/
theorem updateSlot_at {u : State} {e : EventSlot} {l r : List EventSlot} (ha : (slotIds u).Pairwise (· < ·))
    (hs : u.sched.slots = l ++ e :: r) (f : EventSlot → EventSlot) :
    updateSlot u e.id f = { u with sched := { u.sched with slots := l ++ f e :: r } } := by
  rw [slotIds, hs, List.map_append, List.map_cons, List.pairwise_append, List.pairwise_cons] at ha
  obtain ⟨-, ⟨hr, -⟩, hl⟩ := ha
  have other : ∀ m : List EventSlot, (∀ x ∈ m, x.id ≠ e.id) →
      (m.map fun x => if x.id == e.id then f x else x) = m := fun m hm => by
    conv_rhs => rw [← List.map_id m]
    exact List.map_congr_left fun x hx => if_neg (by simpa using hm x hx)
  have left := other l fun x hx => (hl x.id (List.mem_map.2 ⟨x, hx, rfl⟩) e.id List.mem_cons_self).ne
  have right := other r fun x hx => (hr x.id (List.mem_map.2 ⟨x, hx, rfl⟩)).ne'
  rw [updateSlot, hs, List.map_append, List.map_cons, left, right, if_pos (by simp)]

/-- The state after a part of a pass whose callbacks did nothing: `fs` are the slots that fired. -/
def quietPass (u : State) (slots fs : List EventSlot) : State :=
  { u with
    sched := { u.sched with slots := slots }
    inputs := { u.inputs with callbacks := u.inputs.callbacks.drop fs.length }
    activity := u.activity ++ silent fs }

/-- Two parts of a pass. -/
theorem quietPass_quietPass (u : State) (slots slots' fs gs : List EventSlot) :
    quietPass (quietPass u slots fs) slots' gs = quietPass u slots' (fs ++ gs) := by
  simp [quietPass, silent, List.map_append, List.drop_drop]

/-- An event whose callback does nothing fires. -/
theorem fire_quiet {u : State} {e : EventSlot} {l r : List EventSlot} (ha : (slotIds u).Pairwise (· < ·))
    (hs : u.sched.slots = l ++ e :: r) (hc : u.inputs.callbacks.headD [] = []) :
    runCallback (updateSlot u e.id cleared) e.cb e.param = quietPass u (l ++ cleared e :: r) [e] := by
  rw [updateSlot_at ha hs]
  simp only [runCallback, hc, List.foldl_nil, quietPass, silent, List.map_cons, List.map_nil, List.length_singleton,
    List.drop_one]

/-- A part of a pass whose callbacks do nothing: the ready events of `todo` fire in order, and no other slot changes. -/
theorem foldl_fireEvent_quiet (start : List Nat) (time : Nat) (todo : List EventSlot) {l r : List EventSlot} {u : State}
    (hs : u.sched.slots = l ++ (todo ++ r)) (ha : (slotIds u).Pairwise (· < ·))
    (hq : ∀ x ∈ u.inputs.callbacks.take (todo.filter (ready start (scheduled u) time)).length, x = []) :
    (todo.map fun e => e.id).foldl (fireEvent start time) u =
      quietPass u (l ++ (todo.map (firedIf (ready start (scheduled u) time)) ++ r))
        (todo.filter (ready start (scheduled u) time)) := by
  induction todo generalizing l u with
  | nil =>
    simp only [List.map_nil, List.nil_append, List.filter_nil] at hs ⊢
    rw [← hs]
    simp [quietPass, silent]
  | cons e todo ih =>
    have he : e ∈ u.sched.slots := by rw [hs]; simp
    rw [List.map_cons, List.foldl_cons, fireEvent_eq start time ha he]
    cases hp : ready start (scheduled u) time e with
    | false =>
      simp only [List.filter_cons, hp, Bool.false_eq_true, if_false] at hq ⊢
      rw [ih (l := l ++ [e]) (by simpa using hs) ha hq]
      simp [firedIf, hp]
    | true =>
      simp only [List.filter_cons, hp, if_true, List.length_cons] at hq ⊢
      have hhead : u.inputs.callbacks.headD [] = [] := by
        cases hc : u.inputs.callbacks with
        | nil => rfl
        | cons x xs => exact hq x (by simp [hc])
      have htail : ∀ x ∈ (u.inputs.callbacks.drop 1).take (todo.filter (ready start (scheduled u) time)).length,
          x = [] := fun x hx => hq x <| by
        cases hc : u.inputs.callbacks with
        | nil => simp [hc] at hx
        | cons y ys => exact List.mem_cons_of_mem _ (by simpa [hc] using hx)
      have hids : slotIds (quietPass u (l ++ cleared e :: (todo ++ r)) [e]) = slotIds u := by
        simp [slotIds, quietPass, hs, cleared]
      rw [fire_quiet ha (by simpa using hs) hhead]
      rw [ih (l := l ++ [cleared e]) (u := quietPass u (l ++ cleared e :: (todo ++ r)) [e]) (by simp [quietPass])
        (by rw [hids]; exact ha) htail, quietPass_quietPass]
      simp [firedIf, hp, quietPass]

/-! ### The whole pass -/

/-- The ids pending at the start of a pass (R1213). -/
def pendingIds (s : State) : List Nat := (s.sched.slots.filter fun e => e.pending).map fun e => e.id

/-- The state in which a pass visits the first slot (R1213). -/
def passStart (s : State) (time : Nat) : State :=
  { s with sched := { s.sched with sysTime := time, scheduledInPass := some [] } }

theorem runSystem_eq (s : State) (time : Nat) : runSystem s time =
    let u := (s.sched.slots.map fun e => e.id).foldl (fireEvent (pendingIds s) time) (passStart s time)
    { u with sched := { u.sched with scheduledInPass := none } } := rfl

/-- While nothing has been scheduled, an event as it was at the start fires where it is due. -/
theorem ready_start {s : State} {e : EventSlot} (time : Nat) (he : e ∈ s.sched.slots) :
    ready (pendingIds s) [] time e = due time e := by
  unfold ready due
  cases hp : e.pending with
  | false => simp
  | true =>
    have : e.id ∈ pendingIds s := List.mem_map.2 ⟨e, List.mem_filter.2 ⟨he, hp⟩, rfl⟩
    simp [this]

/-- A part of the slots, while nothing has been scheduled. -/
theorem filter_ready_start {s : State} (time : Nat) {l : List EventSlot} (hl : ∀ e ∈ l, e ∈ s.sched.slots) :
    l.filter (ready (pendingIds s) [] time) = l.filter (due time) :=
  List.filter_congr fun _ he => ready_start time (hl _ he)

theorem map_ready_start {s : State} (time : Nat) {l : List EventSlot} (hl : ∀ e ∈ l, e ∈ s.sched.slots) :
    l.map (firedIf (ready (pendingIds s) [] time)) = l.map (fired time) :=
  List.map_congr_left fun _ he => by rw [fired_eq, firedIf, firedIf, ready_start time (hl _ he)]

theorem slotIds_ascending {s : State} (h : slotsAscending s) : (slotIds s).Pairwise (· < ·) := by
  rw [show slotIds s = s.params.eventIds from h.1]
  exact h.2

/-- A pass whose callbacks do nothing (R1213). -/
theorem runSystem_silent {s : State} (h : slotsAscending s) (hc : s.inputs.callbacks = []) (time : Nat) :
    runSystem s time =
      { quietPass s (s.sched.slots.map (fired time)) (s.sched.slots.filter (due time)) with
        sched := { slots := s.sched.slots.map (fired time), sysTime := time, scheduledInPass := none } } := by
  have hp := foldl_fireEvent_quiet (pendingIds s) time s.sched.slots (l := []) (r := []) (u := passStart s time)
    (by simp [passStart]) (slotIds_ascending h) (by simp [passStart, hc])
  rw [show scheduled (passStart s time) = [] from rfl, filter_ready_start time fun _ h => h,
    map_ready_start time fun _ h => h, List.nil_append, List.append_nil] at hp
  rw [runSystem_eq, hp]
  rfl

/-- The state `u` in which a pass of `s` comes to the call `c`, the one action of the callback of `e`: the slots before `e`
are as the pass leaves them, its own is cleared, and those after it are still to visit (R1213, R1216). -/
structure AtCall (s u : State) (time : Nat) (l r : List EventSlot) (e : EventSlot) (c : Call) : Prop where
  slots : u.sched.slots = l.map (fired time) ++ cleared e :: r
  inPass : u.sched.scheduledInPass = some []
  now : u.now = s.now
  scripts : u.inputs.callbacks = []
  activity : u.activity = s.activity ++ silent (l.filter (due time)) ++ [.callback e.cb e.param [.call c]]
  rest : (s.sched.slots.map fun e => e.id).foldl (fireEvent (pendingIds s) time) (passStart s time) =
    (r.map fun e => e.id).foldl (fireEvent (pendingIds s) time) (runCall u c)

/-- A pass whose first callback that does anything makes one call comes to that call. -/
theorem exists_atCall {s : State} (h : slotsAscending s) {time : Nat} {l r : List EventSlot} {e : EventSlot} {c : Call}
    (hs : s.sched.slots = l ++ e :: r) (he : due time e = true)
    (hc : s.inputs.callbacks = List.replicate (l.filter (due time)).length [] ++ [[.call c]]) :
    ∃ u, AtCall s u time l r e c := by
  have hl : ∀ x ∈ l, x ∈ s.sched.slots := fun x hx => by rw [hs]; simp [hx]
  have hm : e ∈ s.sched.slots := by rw [hs]; simp
  have hp := foldl_fireEvent_quiet (pendingIds s) time l (l := []) (r := e :: r) (u := passStart s time)
    (by simpa [passStart] using hs) (slotIds_ascending h) fun x hx => by
      rw [show scheduled (passStart s time) = [] from rfl, filter_ready_start time hl,
        show (passStart s time).inputs = s.inputs from rfl, hc, List.take_left' (by simp)] at hx
      exact List.eq_of_mem_replicate hx
  rw [show scheduled (passStart s time) = [] from rfl, filter_ready_start time hl, map_ready_start time hl,
    List.nil_append] at hp
  set v := quietPass (passStart s time) (l.map (fired time) ++ e :: r) (l.filter (due time)) with hv
  have hvs : v.sched.slots = l.map (fired time) ++ e :: r := rfl
  have hva : (slotIds v).Pairwise (· < ·) := by
    have := slotIds_ascending h
    rw [slotIds, hs] at this
    rw [slotIds, hvs]
    simpa [fired_eq, Function.comp_def, firedIf_id] using this
  have hvc : v.inputs.callbacks = [[.call c]] := by
    rw [hv]
    simp [quietPass, passStart, hc]
  refine ⟨{ updateSlot v e.id cleared with
    inputs := { v.inputs with callbacks := [] }
    activity := v.activity ++ [.callback e.cb e.param [.call c]] }, ?_, rfl, rfl, rfl, rfl, ?_⟩
  · rw [updateSlot_at hva hvs]
  · rw [hs, List.map_append, List.map_cons, List.foldl_append, List.foldl_cons, hp,
      fireEvent_eq _ _ hva (by rw [hvs]; simp), show scheduled v = [] from rfl, ready_start time hm, he, if_pos rfl]
    have hu : (updateSlot v e.id cleared).inputs.callbacks = [[.call c]] := hvc
    rw [runCallback, hu]
    rfl

/-- The rest of a pass after a call, where no script is left: `g` is what the call made of the slots still to visit, and
`q` says which of them fire. -/
theorem foldl_after_call {s u : State} {time : Nat} {l r : List EventSlot} {g : EventSlot → EventSlot}
    {q : EventSlot → Bool} (hs : u.sched.slots = l ++ r.map g) (ha : (slotIds u).Pairwise (· < ·))
    (hc : u.inputs.callbacks = []) (hid : ∀ x ∈ r, (g x).id = x.id)
    (hq : ∀ x ∈ r, ready (pendingIds s) (scheduled u) time (g x) = q x) (hg : ∀ x ∈ r, q x = true → g x = x) :
    (r.map fun e => e.id).foldl (fireEvent (pendingIds s) time) u =
      quietPass u (l ++ r.map fun x => if q x then cleared x else g x) (r.filter q) := by
  have hids : (r.map fun e => e.id) = (r.map g).map fun e => e.id := by
    rw [List.map_map]
    exact List.map_congr_left fun x hx => (hid x hx).symm
  have hfs : (r.map g).filter (ready (pendingIds s) (scheduled u) time) = r.filter q := by
    have hq' : ∀ x ∈ r, (ready (pendingIds s) (scheduled u) time ∘ g) x = q x := hq
    rw [List.filter_map, List.filter_congr hq']
    conv_rhs => rw [← List.map_id (r.filter q)]
    exact List.map_congr_left fun x hx => hg x (List.mem_filter.1 hx).1 (List.mem_filter.1 hx).2
  have hms : (r.map g).map (firedIf (ready (pendingIds s) (scheduled u) time)) =
      r.map fun x => if q x then cleared x else g x := by
    rw [List.map_map]
    refine List.map_congr_left fun x hx => ?_
    rw [Function.comp_apply, firedIf, hq x hx]
    split
    next e => rw [hg x hx e]
    · rfl
  rw [hids, foldl_fireEvent_quiet (pendingIds s) time (r.map g) (r := []) (by simpa using hs) ha (by simp [hc]), hfs, hms,
    List.append_nil]

/-! ### A cancel and a schedule within the pass (R1210, R1211, R1216) -/

theorem fired_id (time : Nat) (x : EventSlot) : (fired time x).id = x.id := firedIf_id _ x

theorem fired_of_due {time : Nat} {x : EventSlot} (h : due time x = true) : fired time x = cleared x := if_pos h

theorem fired_of_not_due {time : Nat} {x : EventSlot} (h : due time x = false) : fired time x = x := by
  rw [fired, h]
  rfl

/-- A schedule, by whether an event of the id is pending (R1210). -/
theorem scheduleEvent_cases {u : State} (ha : (slotIds u).Pairwise (· < ·)) (id : Nat) (k : EventKind) (d cb : Nat)
    (p : Word) :
    (scheduleEvent u id k d cb p = u ∧ ∀ x ∈ u.sched.slots, x.id = id → x.pending = true) ∨
      (scheduleEvent u id k d cb p = { u with sched := { u.sched with
          slots := u.sched.slots.map fun x => if x.id = id then scheduledSlot u.now x k d cb p else x
          scheduledInPass := u.sched.scheduledInPass.map fun l => id :: l } } ∧
        ∀ x ∈ u.sched.slots, x.id = id → x.pending = false) := by
  unfold scheduleEvent
  cases he : eventSlot u id with
  | none =>
    refine .inl ⟨rfl, fun x hx e => ?_⟩
    rw [← e, eventSlot_of_mem ha hx] at he
    cases he
  | some y =>
    have huniq : ∀ x ∈ u.sched.slots, x.id = id → x = y := fun x hx e => by
      rw [← e, eventSlot_of_mem ha hx] at he
      exact Option.some.inj he
    dsimp only
    cases hp : y.pending with
    | true => exact .inl ⟨if_pos rfl, fun x hx e => by rw [huniq x hx e, hp]⟩
    | false =>
      refine .inr ⟨?_, fun x hx e => by rw [huniq x hx e, hp]⟩
      rw [if_neg (by decide), updateSlot]
      dsimp only
      congr 2
      refine List.map_congr_left fun x hx => ?_
      simp only [beq_iff_eq]
      refine if_ctx_congr Iff.rfl (fun e => ?_) fun _ => rfl
      rw [huniq x hx e]
      cases k <;> rfl

section CallInPass
variable {s : State} {time : Nat} {l r : List EventSlot} {e : EventSlot}

/-- The slots around an event are others. -/
theorem notMem_of_ascending (h : slotsAscending s) (hs : s.sched.slots = l ++ e :: r) {x : EventSlot} (hx : x ∈ r) :
    x ∉ l ∧ x ≠ e := by
  have ha := slotIds_ascending h
  rw [slotIds, hs, List.map_append, List.map_cons, List.pairwise_append, List.pairwise_cons] at ha
  obtain ⟨-, ⟨hr, -⟩, hl⟩ := ha
  have hxm : x.id ∈ r.map fun e => e.id := List.mem_map.2 ⟨x, hx, rfl⟩
  refine ⟨fun m => ?_, fun m => ?_⟩
  · exact (hl x.id (List.mem_map.2 ⟨x, m, rfl⟩) x.id (List.mem_cons_of_mem _ hxm)).false
  · exact (m ▸ hr x.id hxm).false

/-- The ids of the slots in the middle of a pass are those of the state it began in. -/
theorem ascending_in_pass (h : slotsAscending s) (hs : s.sched.slots = l ++ e :: r) {u : State}
    (hu : u.sched.slots = l.map (fired time) ++ cleared e :: r) : (slotIds u).Pairwise (· < ·) := by
  have ha := slotIds_ascending h
  rw [slotIds, hs] at ha
  rw [slotIds, hu]
  simpa [fired_eq, Function.comp_def, firedIf_id, cleared] using ha

/-- A slot the pass has visited, cancelled. -/
theorem cancelled_fired (time id : Nat) (x : EventSlot) :
    (if (fired time x).id = id then cleared (fired time x) else fired time x) =
      if x.id = id then { x with pending := false } else fired time x := by
  unfold fired
  split <;> rfl

/-- A pass in which the callback of `e` cancels an event (R1211, R1216). -/
theorem runSystem_cancel (h : slotsAscending s) (hs : s.sched.slots = l ++ e :: r) (he : due time e = true) {id : Nat}
    (hc : s.inputs.callbacks = List.replicate (l.filter (due time)).length [] ++ [[.call (.cancel id)]]) :
    (runSystem s time).sched.slots =
        s.sched.slots.map (fun x => if x.id = id then { x with pending := false } else fired time x) ∧
      (runSystem s time).activity = s.activity ++ silent (l.filter (due time)) ++
        .callback e.cb e.param [.call (.cancel id)] :: silent ((r.filter (due time)).filter fun x => x.id ≠ id) := by
  obtain ⟨u, hus, hup, -, huc, hua, hfold⟩ := exists_atCall h hs he hc
  have hr : ∀ x ∈ r, x ∈ s.sched.slots := fun x hx => by rw [hs]; simp [hx]
  have ha : (slotIds (cancelEvent u id)).Pairwise (· < ·) := by
    rw [cancelEvent_ids]
    exact ascending_in_pass h hs hus
  have hsch : scheduled (cancelEvent u id) = [] := by
    show u.sched.scheduledInPass.getD [] = []
    rw [hup]
    rfl
  have hrest := foldl_after_call (s := s) (time := time) (r := r) (u := cancelEvent u id)
    (l := (l.map (fired time) ++ [cleared e]).map fun x => if x.id = id then cleared x else x)
    (g := fun x => if x.id = id then cleared x else x) (q := fun x => due time x && decide (x.id ≠ id))
    (by simp [cancelEvent, updateSlot, hus, cleared]) ha huc (fun x _ => by split <;> rfl)
    (fun x hx => by
      rw [hsch]
      split
      next e => simp [ready, cleared, e]
      next e => simp [ready_start time (hr x hx), e])
    (fun x _ hx => if_neg (by simpa using (Bool.and_eq_true_iff.1 hx).2))
  rw [runSystem_eq, hfold, show runCall u (.cancel id) = cancelEvent u id from rfl, hrest]
  refine ⟨?_, ?_⟩
  · have tail : ∀ x ∈ r, (if (due time x && decide (x.id ≠ id)) = true then cleared x
        else if x.id = id then cleared x else x) = if x.id = id then { x with pending := false } else fired time x :=
      fun x _ => by
        by_cases e : x.id = id
        · simp [e, cleared]
        · simp [e, fired_eq, firedIf]
    show List.map _ _ ++ List.map _ r = _
    rw [hs, List.map_append, List.map_append, List.map_cons, List.map_map, List.map_congr_left tail]
    simp only [Function.comp_def, cancelled_fired, List.map_cons, List.map_nil, List.append_assoc, List.singleton_append]
    rw [← cancelled_fired, fired_of_due he]
  · show u.activity ++ silent _ = _
    rw [hua, List.filter_filter, List.append_assoc, List.singleton_append]
    simp only [Bool.and_comm]

/-- The slot `x` after a pass in which the callback of `e`, run after those of `before`, schedules an event: the schedule
takes effect where the slot is not, or no longer, pending (R1210, R1216). -/
def slotAfterSchedule (s : State) (time : Nat) (before : List EventSlot) (e : EventSlot) (id : Nat) (k : EventKind)
    (d cb : Nat) (p : Word) (x : EventSlot) : EventSlot :=
  if x.id = id ∧ (x.pending = false ∨ x ∈ before ∨ x = e) then scheduledSlot s.now x k d cb p else fired time x

/-- A slot before the event is open to a schedule where it is not pending once visited. -/
theorem visited_open_iff (he : due time e = true) {x : EventSlot} (hx : x ∈ l) :
    (x.pending = false ∨ x ∈ l.filter (due time) ∨ x = e) ↔ (fired time x).pending = false := by
  cases hd : due time x with
  | true => simp [fired_of_due hd, cleared, List.mem_filter, hx, hd]
  | false =>
    have hne : x ≠ e := by
      rintro rfl
      rw [he] at hd
      cases hd
    simp [fired_of_not_due hd, List.mem_filter, hd, hne]

/-- A slot after the event is open to a schedule where it is not pending. -/
theorem ahead_open_iff (h : slotsAscending s) (hs : s.sched.slots = l ++ e :: r) {x : EventSlot} (hx : x ∈ r) :
    (x.pending = false ∨ x ∈ l.filter (due time) ∨ x = e) ↔ x.pending = false := by
  obtain ⟨hnl, hne⟩ := notMem_of_ascending h hs hx
  simp [List.mem_filter, hnl, hne]

theorem scheduledSlot_fired (now time : Nat) (x : EventSlot) (k : EventKind) (d cb : Nat) (p : Word) :
    scheduledSlot now (fired time x) k d cb p = scheduledSlot now x k d cb p := by
  unfold fired
  split <;> rfl

variable {u : State} {id : Nat} {k : EventKind} {d cb : Nat} {p : Word}

theorem AtCall.mem_visited {c : Call} (m : AtCall s u time l r e c) {x : EventSlot} (hx : x ∈ l) :
    fired time x ∈ u.sched.slots := by
  rw [m.slots]
  exact List.mem_append_left _ (List.mem_map_of_mem hx)

theorem AtCall.mem_event {c : Call} (m : AtCall s u time l r e c) : cleared e ∈ u.sched.slots := by
  rw [m.slots]
  simp

theorem AtCall.mem_ahead {c : Call} (m : AtCall s u time l r e c) {x : EventSlot} (hx : x ∈ r) : x ∈ u.sched.slots := by
  rw [m.slots]
  simp [hx]

/-- A schedule of an event that is pending changes nothing (R1210). -/
theorem AtCall.rejected (m : AtCall s u time l r e (.sched id k d cb p)) (h : slotsAscending s)
    (hs : s.sched.slots = l ++ e :: r) (he : due time e = true) (heq : scheduleEvent u id k d cb p = u)
    (hpend : ∀ x ∈ u.sched.slots, x.id = id → x.pending = true) :
    (runSystem s time).sched.slots =
        s.sched.slots.map (slotAfterSchedule s time (l.filter (due time)) e id k d cb p) ∧
      (runSystem s time).activity = s.activity ++ silent (l.filter (due time)) ++
        .callback e.cb e.param [.call (.sched id k d cb p)] :: silent (r.filter (due time)) := by
  have hrest := foldl_after_call (s := s) (time := time) (r := r) (u := u) (l := l.map (fired time) ++ [cleared e])
    (g := fun x => x) (q := due time) (by simp [m.slots]) (ascending_in_pass h hs m.slots) m.scripts (fun _ _ => rfl)
    (fun x hx => by rw [scheduled, m.inPass]; exact ready_start time (by rw [hs]; simp [hx])) (fun _ _ _ => rfl)
  have closed : ∀ {x : EventSlot}, x ∈ u.sched.slots → x.id = id → x.pending = false → False := fun hx hid hp => by
    rw [hpend _ hx hid] at hp
    cases hp
  rw [runSystem_eq, m.rest, show runCall u (.sched id k d cb p) = scheduleEvent u id k d cb p from rfl, heq, hrest]
  refine ⟨?_, ?_⟩
  · show (List.map (fired time) l ++ [cleared e]) ++ List.map (fired time) r = _
    rw [hs, List.map_append, List.map_cons, List.append_assoc, List.singleton_append]
    congr 1
    · exact List.map_congr_left fun x hx => (if_neg fun ⟨hid, ho⟩ =>
        closed (m.mem_visited hx) ((fired_id time x).trans hid) ((visited_open_iff he hx).1 ho)).symm
    congr 1
    · exact (fired_of_due he).symm.trans (if_neg fun ⟨hid, _⟩ => closed m.mem_event hid rfl).symm
    · exact List.map_congr_left fun x hx => (if_neg fun ⟨hid, ho⟩ =>
        closed (m.mem_ahead hx) hid ((ahead_open_iff h hs hx).1 ho)).symm
  · show u.activity ++ silent _ = _
    rw [m.activity, List.append_assoc, List.singleton_append]

/-- A schedule of an event that is not pending takes effect, and the event does not fire in the pass (R1210, R1213). -/
theorem AtCall.taken (m : AtCall s u time l r e (.sched id k d cb p)) (h : slotsAscending s)
    (hs : s.sched.slots = l ++ e :: r) (he : due time e = true)
    (heq : scheduleEvent u id k d cb p = { u with sched := { u.sched with
      slots := u.sched.slots.map fun x => if x.id = id then scheduledSlot u.now x k d cb p else x
      scheduledInPass := u.sched.scheduledInPass.map fun l => id :: l } })
    (hpend : ∀ x ∈ u.sched.slots, x.id = id → x.pending = false) :
    (runSystem s time).sched.slots =
        s.sched.slots.map (slotAfterSchedule s time (l.filter (due time)) e id k d cb p) ∧
      (runSystem s time).activity = s.activity ++ silent (l.filter (due time)) ++
        .callback e.cb e.param [.call (.sched id k d cb p)] :: silent (r.filter (due time)) := by
  have quiet : ∀ x ∈ r, x.id = id → due time x = false := fun x hx hid => by
    rw [due, hpend x (m.mem_ahead hx) hid, Bool.false_and]
  have ha : (slotIds (scheduleEvent u id k d cb p)).Pairwise (· < ·) := by
    rw [scheduleEvent_ids]
    exact ascending_in_pass h hs m.slots
  have hsch : scheduled (scheduleEvent u id k d cb p) = [id] := by rw [scheduled, heq, m.inPass]; rfl
  have hrest := foldl_after_call (s := s) (time := time) (r := r) (u := scheduleEvent u id k d cb p)
    (l := (l.map (fired time) ++ [cleared e]).map fun x => if x.id = id then scheduledSlot u.now x k d cb p else x)
    (g := fun x => if x.id = id then scheduledSlot u.now x k d cb p else x) (q := due time)
    (by simp [heq, m.slots]) ha (by rw [heq]; exact m.scripts) (fun x _ => by split <;> rfl)
    (fun x hx => by
      rw [hsch]
      split
      next e => simp [ready, scheduledSlot, e, quiet x hx e]
      next e =>
        rw [← ready_start (s := s) time (by rw [hs]; simp [hx])]
        simp [ready, e])
    (fun x hx hd => if_neg fun e => by rw [quiet x hx e] at hd; cases hd)
  rw [runSystem_eq, m.rest, show runCall u (.sched id k d cb p) = scheduleEvent u id k d cb p from rfl, hrest]
  refine ⟨?_, ?_⟩
  · show List.map _ _ ++ List.map _ r = _
    rw [hs, List.map_append, List.map_append, List.map_map, List.map_cons (l := r), List.map_singleton,
      List.append_assoc, List.singleton_append, m.now]
    congr 1
    · refine List.map_congr_left fun x hx => ?_
      rw [Function.comp_apply, scheduledSlot_fired]
      refine if_ctx_congr ?_ (fun _ => rfl) fun _ => rfl
      rw [visited_open_iff he hx, fired_id]
      exact ⟨fun hid => ⟨hid, hpend _ (m.mem_visited hx) ((fired_id time x).trans hid)⟩, And.left⟩
    congr 1
    · rw [slotAfterSchedule, fired_of_due he]
      exact if_ctx_congr ⟨fun hid => ⟨hid, .inr (.inr rfl)⟩, And.left⟩ (fun _ => rfl) fun _ => rfl
    · refine List.map_congr_left fun x hx => ?_
      rw [slotAfterSchedule]
      by_cases hid : x.id = id
      · rw [quiet x hx hid, if_neg Bool.false_ne_true, if_pos hid,
          if_pos ⟨hid, (ahead_open_iff h hs hx).2 (hpend x (m.mem_ahead hx) hid)⟩]
      · rw [if_neg hid]
        exact (if_neg fun o => hid o.1).symm
  · show (scheduleEvent u id k d cb p).activity ++ silent _ = _
    rw [heq]
    show u.activity ++ silent _ = _
    rw [m.activity, List.append_assoc, List.singleton_append]

end CallInPass

/-- Settles O58: the pass is a fold over the slots; a call divides it into the part before, the call, and the part after. -/
theorem runSystemFiresDueEvents : Obligations.RunSystemFiresDueEvents := by
  intro s time h
  obtain ⟨hmarker, hpass, hnow⟩ := runSystem_times s time
  refine ⟨hmarker, hpass, hnow, fun hc => ?_, fun before after e c hf hc => ?_⟩
  · rw [runSystem_silent h hc]
    exact ⟨rfl, rfl, rfl, rfl, rfl, rfl⟩
  · obtain ⟨l, l', hs, rfl, hl'⟩ := List.filter_eq_append_iff.1 hf
    obtain ⟨m, r, rfl, hm, he, rfl⟩ := List.filter_eq_cons_iff.1 hl'
    have hbefore : (l ++ m).filter (due time) = l.filter (due time) := by
      rw [List.filter_append, List.filter_eq_nil_iff.2 hm, List.append_nil]
    rw [← List.append_assoc] at hs
    rw [← hbefore] at hc ⊢
    refine ⟨?_, ?_⟩
    · rintro id rfl
      exact runSystem_cancel h hs he hc
    · rintro id k d cb p rfl
      obtain ⟨u, hu⟩ := exists_atCall h hs he hc
      rcases scheduleEvent_cases (ascending_in_pass h hs hu.slots) id k d cb p with ⟨heq, hpend⟩ | ⟨heq, hpend⟩
      · exact hu.rejected h hs he heq hpend
      · exact hu.taken h hs he heq hpend

end Sys2Proof.Machine
end

section
/-! PROOFS. Reads of one, two and four bytes of flat memory, and of them after a write of a word (R205-R207): O54. -/

namespace Sys2Proof.Machine

open Sys2Proof Sys2Proof.Claims

/-! ### Reads of each width (R205) -/

theorem flatRead_one (m : Memory) (f : Word × Nat) (a : Word) :
    flatRead m f a 1 = (m.read (storageKey f a)).setWidth 32 := by
  simp [flatRead, accessKeys, leValue_one]

theorem flatRead_two (m : Memory) (f : Word × Nat) (a : Word) :
    flatRead m f a 2 = (m.read (storageKey f (a + 1#32)) ++ m.read (storageKey f a)).setWidth 32 := by
  simp [flatRead, accessKeys, List.range_succ, leValue_two]

theorem flatRead_four (m : Memory) (f : Word × Nat) (a : Word) :
    flatRead m f a 4 = m.read (storageKey f (a + 3#32)) ++ m.read (storageKey f (a + 2#32)) ++
      m.read (storageKey f (a + 1#32)) ++ m.read (storageKey f a) := by
  simp [flatRead, accessKeys, List.range_succ, leValue_four]

/-! ### The bytes of a word -/

theorem byteOf_eq_extract (v : Word) (k : Nat) : byteOf v k = v.extractLsb' (8 * k) 8 := rfl

/-- Two bytes of a word, one above the other, are a halfword of it (R205). -/
theorem byteOf_append (v : Word) (k : Nat) : byteOf v (k + 1) ++ byteOf v k = v.extractLsb' (8 * k) 16 := by
  ext i hi
  simp only [byteOf_eq_extract, BitVec.getElem_append, BitVec.getElem_extractLsb']
  split_ifs
  · rfl
  · congr 1
    omega

/-- Settles O54: each byte of the word written is at its place, and a read of any width puts bytes together. -/
theorem mixedWidthMemory : Obligations.MixedWidthMemory := by
  intro m f a v hm hd
  have hb : ∀ k, k < 4 → (flatWrite m f a 4 v).read (storageKey f (a + BitVec.ofNat 32 k)) = byteOf v k :=
    fun k hk => read_flatWrite hm v hd hk
  have h0 : (flatWrite m f a 4 v).read (storageKey f a) = byteOf v 0 := by simpa using hb 0 (by omega)
  have h3 : a + 2#32 + 1#32 = a + BitVec.ofNat 32 3 := by rw [BitVec.add_assoc]; rfl
  refine ⟨?_, ?_, ?_, fun k hk => ?_, fun key hk => read_flatWrite_of_notMem m f a 4 v hk, wf_flatWrite hm f a 4 v⟩
  · rw [flatRead_four, hb 3 (by omega), hb 2 (by omega), hb 1 (by omega), h0, word_of_bytes]
  · rw [flatRead_two, hb 1 (by omega), h0, byteOf_append]
  · rw [flatRead_two, h3, hb 3 (by omega), hb 2 (by omega), byteOf_append]
  · rw [flatRead_one, hb k hk, byteOf_eq_extract]

end Sys2Proof.Machine
end

section
/-! PROOFS. A miss of the instruction cache that fills its line from flat memory, and the line's life after it
(spec/20_memory.md R240-R246): O55. -/

namespace Sys2Proof.Machine

open Sys2Proof Sys2Proof.Claims

/-! ### Addresses of one line (R240) -/

theorem extract_lineBase (a : Word) {lo n : Nat} (hlo : 5 ≤ lo) (hn : lo + n ≤ 32) :
    (lineBase a).extractLsb' lo n = a.extractLsb' lo n := by
  have mask : ∀ i, 5 ≤ i → i < 32 → (0xFFFFFFE0#32).getLsbD i = true := fun i _ _ => by interval_cases i <;> rfl
  apply BitVec.eq_of_getLsbD_eq
  intro i hi
  simp only [lineBase, BitVec.getLsbD_extractLsb', BitVec.getLsbD_and]
  rw [mask _ (by omega) (by omega), Bool.and_true]

/-- Two addresses of one line have the line's tag and set. -/
theorem cacheTag_index_of_lineBase {a b : Word} (h : lineBase b = lineBase a) :
    cacheTag b = cacheTag a ∧ cacheIndex b = cacheIndex a := by
  have same : ∀ lo n, 5 ≤ lo → lo + n ≤ 32 → b.extractLsb' lo n = a.extractLsb' lo n := fun lo n hl hn => by
    rw [← extract_lineBase b hl hn, ← extract_lineBase a hl hn, h]
  exact ⟨same 11 21 (by omega) (by omega), congrArg BitVec.toFin (same 5 6 (by omega) (by omega))⟩

/-! ### A hit and a miss (R233, R241) -/

/-- The cache answers a fetch where caching is active and a valid line of the set has the tag. -/
theorem cacheHit_iff (s : State) (a : Word) : cacheHit s a = true ↔ cachingActive s = true ∧
    ∃ w, ((s.ic.get (cacheIndex a)).lines.get w).valid = true ∧
      ((s.ic.get (cacheIndex a)).lines.get w).tag = cacheTag a := by
  rw [cacheHit, Bool.and_eq_true, hitWay_isSome]

/-- A fetch the cache answers (R241). -/
theorem fetchCode_hit {s : State} {a : Word} {l : CacheLine} (n : Width) (q : Bool) (h : cacheHit s a = true)
    (hl : ∀ w, ((s.ic.get (cacheIndex a)).lines.get w).valid = true →
      ((s.ic.get (cacheIndex a)).lines.get w).tag = cacheTag a → (s.ic.get (cacheIndex a)).lines.get w = l) :
    fetchCode s a n q = (lineValue l (cacheOffset a) n.bytes, { s with codeCycles := 1 }) := by
  rw [cacheHit, Bool.and_eq_true] at h
  obtain ⟨w, hw⟩ := Option.isSome_iff_exists.1 h.2
  obtain ⟨hv, ht⟩ := hitWay_some hw
  simp only [fetchCode, h.1, if_true, cacheLookup, hw, hl w hv ht]

/-- A fetch the cache does not answer while it is active (R242). -/
theorem fetchCode_miss {s : State} {a : Word} (n : Width) (q : Bool) (hc : cachingActive s = true)
    (h : cacheHit s a = false) :
    fetchCode s a n q = ((cacheMiss s a n.bytes).1,
      { (cacheMiss s a n.bytes).2.2 with codeCycles := (cacheMiss s a n.bytes).2.1 }) := by
  rw [cacheHit, hc, Bool.true_and, Option.isSome_eq_false_iff, Option.isNone_iff_eq_none] at h
  simp only [fetchCode, hc, if_true, cacheLookup, h]

/-! ### The victim (R243) -/

/-- The way that a miss replaces. -/
def replacedWay (s : State) (i : Fin 64) : BitVec 2 :=
  if s.ctrl.getLsbD 14 then (s.ic.get i).rr else (Config.victimStep s.icRng).1

theorem victimWay_way (s : State) (i : Fin 64) : (victimWay s i).1 = (replacedWay s i).toFin := by
  unfold victimWay replacedWay
  split <;> rfl

theorem victimWay_rng (s : State) (i : Fin 64) : (victimWay s i).2.icRng =
    if s.ctrl.getLsbD 14 then s.icRng else (Config.victimStep s.icRng).2 := by
  unfold victimWay
  split <;> rfl

theorem victimWay_rr (s : State) (i : Fin 64) : ((victimWay s i).2.ic.get i).rr =
    if s.ctrl.getLsbD 14 then (s.ic.get i).rr + 1#2 else (s.ic.get i).rr := by
  unfold victimWay
  split
  · exact congrArg CacheSet.rr ((setCacheSet_get _ _ _ _).trans (if_pos rfl))
  · rfl

theorem victimWay_other (s : State) {i x : Fin 64} (h : x ≠ i) : (victimWay s i).2.ic.get x = s.ic.get x := by
  unfold victimWay
  split
  · exact (setCacheSet_get _ _ _ _).trans (if_neg h)
  · rfl

/-! ### The filled line (R242, R244) -/

/-- The line that a miss fills from flat memory. -/
def filledLine (s : State) (f : Word × Nat) (a : Word) : CacheLine :=
  { data := lineOf s f a, tag := cacheTag a, valid := true }

/-- A miss whose line is in flat memory: the victim is chosen, the line filled and installed. -/
theorem cacheMiss_flat {s : State} {a : Word} {f : Word × Nat} (n : Nat)
    (h : flatRegion s.params (lineBase a) = some f) :
    cacheMiss s a n = (lineValue (filledLine s f a) (cacheOffset a) n, Config.missCost (lineBase a),
      installLine (victimWay s (cacheIndex a)).2 (cacheIndex a) (replacedWay s (cacheIndex a)).toFin
        (filledLine s f a)) := by
  have k := victimWay_fetch s (cacheIndex a)
  have hfill : lineFill (victimWay s (cacheIndex a)).2 (lineBase a) =
      (lineOf s f a, (victimWay s (cacheIndex a)).2) := by
    simp only [lineFill, k.params, h, k.mem]
    rfl
  simp only [cacheMiss, hfill, victimWay_way]
  rfl

theorem installLine_other (s : State) {i x : Fin 64} (w : Fin 4) (l : CacheLine) (h : x ≠ i) :
    (installLine s i w l).ic.get x = s.ic.get x := (setCacheSet_get _ _ _ _).trans (if_neg h)

theorem installLine_rr (s : State) (i : Fin 64) (w : Fin 4) (l : CacheLine) :
    ((installLine s i w l).ic.get i).rr = (s.ic.get i).rr := by
  rw [installLine, setCacheSet_get, if_pos rfl]

theorem installLine_lines (s : State) (i : Fin 64) (w x : Fin 4) (l : CacheLine) :
    ((installLine s i w l).ic.get i).lines.get x = if x = w then l else (s.ic.get i).lines.get x := by
  rw [installLine, setCacheSet_get, if_pos rfl]
  simp only [Vector.get_eq_getElem, Vector.getElem_set, Fin.val_inj, eq_comm (a := w)]

/-! ### The life of a line -/

/-- What a miss leaves in the cache (R242, R243): the line in the replaced way, nothing else of the set or
of another. -/
structure Filled (s t : State) (a : Word) (l : CacheLine) : Prop where
  others : ∀ i, i ≠ cacheIndex a → t.ic.get i = s.ic.get i
  lines : ∀ w : Fin 4, (t.ic.get (cacheIndex a)).lines.get w =
    if w = (replacedWay s (cacheIndex a)).toFin then l else (s.ic.get (cacheIndex a)).lines.get w
  rr : (t.ic.get (cacheIndex a)).rr =
    if s.ctrl.getLsbD 14 then (s.ic.get (cacheIndex a)).rr + 1#2 else (s.ic.get (cacheIndex a)).rr
  rng : t.icRng = if s.ctrl.getLsbD 14 then s.icRng else (Config.victimStep s.icRng).2
  ctrl : t.ctrl = s.ctrl

theorem cacheMiss_filled {s : State} {a : Word} {f : Word × Nat} (n : Nat)
    (h : flatRegion s.params (lineBase a) = some f) : Filled s (cacheMiss s a n).2.2 a (filledLine s f a) := by
  have k := victimWay_fetch s (cacheIndex a)
  rw [cacheMiss_flat n h]
  refine ⟨fun i hi => ?_, fun w => ?_, ?_, victimWay_rng s _, k.ctrl⟩
  · rw [installLine_other _ _ _ hi, victimWay_other s hi]
  · rw [installLine_lines, victimWay_lines]
  · rw [installLine_rr, victimWay_rr]

section Life
variable {s t : State} {a b : Word} {l : CacheLine}

/-- A filled line is the one line of its set that hits, where none did before (R247). -/
theorem Filled.hit_eq (h : Filled s t a l) (hc : cachingActive s = true) (hm : cacheHit s a = false) {w : Fin 4}
    (hv : ((t.ic.get (cacheIndex a)).lines.get w).valid = true)
    (ht : ((t.ic.get (cacheIndex a)).lines.get w).tag = cacheTag a) : (t.ic.get (cacheIndex a)).lines.get w = l := by
  rw [h.lines] at hv ht ⊢
  split at hv
  next e => rw [if_pos e]
  next e =>
    rw [if_neg e] at ht
    rw [(cacheHit_iff s a).2 ⟨hc, w, hv, ht⟩] at hm
    cases hm

theorem Filled.hits (h : Filled s t a l) (hc : cachingActive s = true) (hl : l.valid = true ∧ l.tag = cacheTag a)
    (hb : lineBase b = lineBase a) : cacheHit t b = true := by
  obtain ⟨ht, hi⟩ := cacheTag_index_of_lineBase hb
  refine (cacheHit_iff t b).2 ⟨by rw [cachingActive, h.ctrl]; exact hc, (replacedWay s (cacheIndex a)).toFin, ?_⟩
  rw [hi, ht, h.lines, if_pos rfl]
  exact hl

end Life

/-- An invalidate by an address of the line drops it (R246). -/
theorem cacheHit_invalidateLine (s : State) {a b : Word} (h : lineBase b = lineBase a) :
    cacheHit (invalidateLine s b) a = false := by
  obtain ⟨ht, hi⟩ := cacheTag_index_of_lineBase h
  rw [← Bool.not_eq_true, cacheHit_iff]
  rintro ⟨-, w, hv, hw⟩
  rw [invalidateLine_get, if_pos hi.symm, invalidateSet_get] at hv hw
  split at hv
  next hk =>
    rw [if_pos hk] at hw
    rw [hw, ht, beq_self_eq_true] at hk
    cases hk
  · cases hv

/-- Settles O55: the miss fills the line in the replaced way, and the line is then the one that hits. -/
theorem cacheMissThenHit : Obligations.CacheMissThenHit := by
  intro s a n q f hc hm hf
  have hx := fetchCode_miss n q hc hm
  have h : Filled s (fetchCode s a n q).2 a (filledLine s f a) := by
    obtain ⟨ho, hl, hr, hg, hctrl⟩ := cacheMiss_filled n.bytes hf
    rw [hx]
    exact ⟨ho, hl, hr, hg, hctrl⟩
  refine ⟨⟨h.others, h.lines, h.rr, h.rng⟩, ?_, ?_, fun b m q' hb => ?_⟩
  · rw [hx, cacheMiss_flat n.bytes hf]
  · rw [hx, cacheMiss_flat n.bytes hf]
    rfl
  · obtain ⟨ht, hi⟩ := cacheTag_index_of_lineBase hb
    have hhit := h.hits hc ⟨rfl, rfl⟩ hb
    refine ⟨hhit, fetchCode_hit m q' hhit fun w hv hw => ?_, cacheHit_invalidateLine _ hb⟩
    rw [hi] at hv hw ⊢
    rw [ht] at hw
    exact h.hit_eq hc hm hv hw

end Sys2Proof.Machine
end

section
/-! PROOFS. One step of the machine: its start, its fetch and its end (spec/40_pipeline.md R420-R432): O7. -/

namespace Sys2Proof.Machine

open Sys2Proof Sys2Proof.Claims

/-! ### The start (R431) -/

/-- The state in which a burst runs is the one `BurstStart` answers. -/
theorem burstStart_of_burstRuns {s b : State} (h : burstRuns s b) : burstStart s = some b := by
  unfold burstRuns at h
  unfold burstStart
  cases hh : s.halt with
  | none => rw [hh] at h; rw [h]
  | singleShot => rw [hh] at h; rw [h]
  | indefinite =>
    rw [hh] at h
    obtain ⟨hi, hb⟩ := h
    simp only [hi, hb, if_true]

/-! ### The fetch (R421, R234) -/

/-- Where the program counter goes before the dispatch. -/
def nextFetch (b : State) : Word := reg b 15#4 + (if flagT b then 2#32 else 4#32)

/-- The state the next fetch is made in: the program counter advanced and the first slot shifted. -/
def shifted (b : State) : State := { setReg b 15#4 (nextFetch b) with curInstr := b.slot0, slot0 := b.slot1 }

/-- The fetch a step makes. -/
def stepFetch (b : State) : Word × State :=
  if flagT b then fetchThumbNext (shifted b) (nextFetch b) else fetchCode (shifted b) (nextFetch b) .word true

theorem advance_eq (b : State) : advance b = { (stepFetch b).2 with slot1 := (stepFetch b).1 } := by
  have hn : reg b 15#4 + (instrWidth b).size = nextFetch b := by
    unfold nextFetch instrWidth
    split <;> rfl
  unfold advance
  dsimp only
  rw [hn]
  rfl

/-- The fetch of a Thumb step is a code fetch, or it takes by a draw the halfword noted for its address (R234). -/
theorem fetchThumbNext_cases (s : State) (a : Word) :
    fetchThumbNext s a = fetchCode s a .half true ∧ s.thumbStale = none ∨
    fetchThumbNext s a = fetchCode { s with thumbStale := none } a .half true ∨
    ∃ old, s.thumbStale = some (a, old) ∧ fetchThumbNext s a =
      (if Config.thumbFetchOld s.draws then old.setWidth 32
        else (fetchCode { s with draws := s.draws + 1, thumbStale := none } a .half true).1,
        (fetchCode { s with draws := s.draws + 1, thumbStale := none } a .half true).2) := by
  unfold fetchThumbNext
  split
  next c old h =>
    split
    next e => exact .inr (.inr ⟨old, e.1 ▸ h, rfl⟩)
    · exact .inr (.inl rfl)
  next h => exact .inl ⟨rfl, h⟩

/-- What a step's fetch keeps of the state it is made in. -/
theorem stepFetch_keeps (b : State) : (stepFetch b).2.regs = (shifted b).regs ∧
    (stepFetch b).2.curInstr = b.slot0 ∧ (stepFetch b).2.slot0 = b.slot1 ∧ (stepFetch b).2.cpsr = b.cpsr ∧
    (stepFetch b).2.mem = b.mem := by
  have keep : ∀ (d : Nat) (o : Option (Word × Half)) (n : Width),
      let t := (fetchCode { shifted b with draws := d, thumbStale := o } (nextFetch b) n true).2
      t.regs = (shifted b).regs ∧ t.curInstr = b.slot0 ∧ t.slot0 = b.slot1 ∧ t.cpsr = b.cpsr ∧ t.mem = b.mem :=
    fun d o n =>
      have k := fetchCode_fetch { shifted b with draws := d, thumbStale := o } (nextFetch b) n true
      ⟨k.regs, k.curInstr, k.slot0, k.cpsr, k.mem⟩
  unfold stepFetch
  split
  · rcases fetchThumbNext_cases (shifted b) (nextFetch b) with ⟨h, -⟩ | h | ⟨old, -, h⟩ <;> rw [h] <;> exact keep _ _ _
  · exact keep _ _ _

/-- With nothing noted a step's fetch is a code fetch of the state's width. -/
theorem stepFetch_unnoted {b : State} (h : b.thumbStale = none) :
    stepFetch b = fetchCode (shifted b) (nextFetch b) (if flagT b then .half else .word) true := by
  have hnext : fetchThumbNext (shifted b) (nextFetch b) = fetchCode (shifted b) (nextFetch b) .half true := by
    simp only [fetchThumbNext, show (shifted b).thumbStale = none from h]
  rw [stepFetch, hnext]
  split <;> rfl

section FlatFetch
variable {b : State} {f : Word × Nat}

/-- Every code fetch of flat memory with caching off (R230), whatever the note of R234 is. -/
theorem fetch_shifted_flat (hc : cachingActive b = false) (hf : flatRegion b.params (nextFetch b) = some f)
    (d : Nat) (o : Option (Word × Half)) (n : Width) :
    fetchCode { shifted b with draws := d, thumbStale := o } (nextFetch b) n true =
      (flatRead b.mem f (nextFetch b) n.bytes,
        { shifted b with
          draws := d, thumbStale := o, codeCycles := Config.codeCost (nextFetch b) n.bytes true }) :=
  fetchCode_flat (s := { shifted b with draws := d, thumbStale := o }) n true hc hf

theorem stepFetch_arm (hc : cachingActive b = false) (hf : flatRegion b.params (nextFetch b) = some f)
    (ht : flagT b = false) : (stepFetch b).1 = word4At b f (nextFetch b) ∧
      (stepFetch b).2.codeCycles = Config.codeCost (nextFetch b) Width.word.bytes true := by
  have h : stepFetch b = fetchCode (shifted b) (nextFetch b) .word true := by rw [stepFetch, ht]; rfl
  rw [h, fetch_shifted_flat hc hf (shifted b).draws (shifted b).thumbStale]
  exact ⟨flatRead_word b f _, rfl⟩

/-- The fetch of a Thumb step (R234): the halfword of memory, or the one noted for the address. -/
theorem stepFetch_thumb (hc : cachingActive b = false) (hf : flatRegion b.params (nextFetch b) = some f)
    (ht : flagT b = true) :
    ((stepFetch b).1 = (halfAt b f (nextFetch b)).setWidth 32 ∨
      ∃ old, b.thumbStale = some (nextFetch b, old) ∧ (stepFetch b).1 = old.setWidth 32) ∧
    (stepFetch b).2.codeCycles = Config.codeCost (nextFetch b) Width.half.bytes true := by
  have h : stepFetch b = fetchThumbNext (shifted b) (nextFetch b) := by rw [stepFetch, ht]; rfl
  have hread : flatRead b.mem f (nextFetch b) Width.half.bytes = (halfAt b f (nextFetch b)).setWidth 32 :=
    flatRead_two b.mem f _
  have hcode := fetch_shifted_flat hc hf
  rcases fetchThumbNext_cases (shifted b) (nextFetch b) with ⟨e, -⟩ | e | ⟨old, ho, e⟩
  · rw [h, e, hcode (shifted b).draws (shifted b).thumbStale]
    exact ⟨.inl hread, rfl⟩
  · rw [h, e, hcode (shifted b).draws none]
    exact ⟨.inl hread, rfl⟩
  · rw [h, e, hcode ((shifted b).draws + 1) none]
    refine ⟨?_, rfl⟩
    split
    · exact .inr ⟨old, ho, rfl⟩
    · exact .inl hread

end FlatFetch

/-! ### The dispatch and the end (R430) -/

theorem noteThumbStore_signals (s t : State) : (noteThumbStore s t).halt = t.halt ∧
    (noteThumbStore s t).irqLine = t.irqLine ∧ (noteThumbStore s t).cpsr = t.cpsr := by
  unfold noteThumbStore
  split
  · dsimp only
    split
    · split <;> exact ⟨rfl, rfl, rfl⟩
    · exact ⟨rfl, rfl, rfl⟩
  · exact ⟨rfl, rfl, rfl⟩

/-- The instruction a step runs is the one its first slot decodes to. -/
theorem curDecoded_advance {b : State} {i : Instr} (harm : flagT b = false → decodeArm b.slot0 = i)
    (hthumb : flagT b = true → decodeThumb (b.slot0.setWidth 16) = i) : curDecoded (advance b) = i := by
  obtain ⟨-, hcur, -, hcpsr, -⟩ := stepFetch_keeps b
  have ht : flagT (advance b) = flagT b := by rw [advance_eq]; exact congrArg (fun w : Word => w.getLsbD 5) hcpsr
  have hc : (advance b).curInstr = b.slot0 := by rw [advance_eq]; exact hcur
  rw [curDecoded, ht, hc]
  split
  next h => exact hthumb h
  next h => exact harm (Bool.eq_false_iff.2 h)

section Dispatch
variable {s b : State} {i : Instr}

theorem step_of_fault {f : Fault} (hs : s.faulted = none) (hb : burstStart s = some b)
    (hi : curDecoded (advance b) = i) (h : exec i (advance b) = .fault f) : step s = .fault f := by
  simp only [step, stepMachine, hs, hb, iteration, stepInstr, hi, h]

theorem step_of_next {t : State} (hs : s.faulted = none) (hb : burstStart s = some b)
    (hi : curDecoded (advance b) = i) (h : exec i (advance b) = .next t) :
    step s = .next (if t.halt = .none then endIteration (noteThumbStore (advance b) t)
      else noteThumbStore (advance b) t) := by
  simp only [step, stepMachine, hs, hb, iteration, stepInstr, hi, h, (noteThumbStore_signals (advance b) t).1]
  by_cases hh : t.halt = .none <;> simp only [hh, if_true, if_false]

end Dispatch

theorem endIteration_dispatch {t : State} (h : t.irqLine = true) (hi : flagI t = false) :
    endIteration t =
      { dispatchIrq t with now := (dispatchIrq t).now + (dispatchIrq t).cycles, cycles := 0 } := by
  simp [endIteration, h, hi]

theorem endIteration_quiet {t : State} (h : t.irqLine = false ∨ flagI t = true) :
    endIteration t = { t with now := t.now + t.cycles, cycles := 0 } := by
  rcases h with h | h <;> simp [endIteration, h]

/-- Settles O7: the start, the fetch, the dispatch and the end of a step, each as its part of `step` does it. -/
theorem stepRunsDecodedInstruction : Obligations.StepRunsDecodedInstruction := by
  intro s hs
  refine ⟨fun hh hi => ?_, fun b i hb harm hthumb => ?_⟩
  · simp only [step, stepMachine, hs, burstStart, hh, hi]
    rfl
  have hstart := burstStart_of_burstRuns hb
  have hdec := curDecoded_advance harm hthumb
  obtain ⟨hregs, hcur, hslot, hcpsr, hmem⟩ := stepFetch_keeps b
  have hslot1 : (advance b).slot1 = (stepFetch b).1 := by rw [advance_eq]
  have hcode : (advance b).codeCycles = (stepFetch b).2.codeCycles := by rw [advance_eq]
  dsimp only
  refine ⟨?_, fun hstale => ?_, fun f hc hf => ?_, fun f h => step_of_fault hs hstart hdec h, fun t h => ?_⟩
  · have hreg : ∀ r, reg (advance b) r = reg (setReg b 15#4 (nextFetch b)) r := fun r => by
      rw [advance_eq]
      exact reg_congr hregs r
    have hpc : reg (advance b) 15#4 = nextFetch b := by rw [hreg, reg_setReg_same]
    rw [advance_eq] at hpc hreg ⊢
    exact ⟨hpc, hcur, hslot, hcpsr, hmem, fun r hr => (hreg r).trans (reg_setReg_ne b _ hr)⟩
  · rw [hslot1, stepFetch_unnoted hstale]
    rfl
  · rw [hslot1, hcode]
    change flatRegion b.params (nextFetch b) = some f at hf
    refine ⟨fun ht => (stepFetch_arm hc hf ht).1, fun ht hno => ?_, fun old ht ho => ?_, ?_⟩
    · rcases (stepFetch_thumb hc hf ht).1 with h | ⟨old, ho, -⟩
      · exact h
      · exact absurd ho (hno old)
    · rcases (stepFetch_thumb hc hf ht).1 with h | ⟨old', ho', h⟩
      · exact .inr h
      · have e : old' = old := congrArg Prod.snd (Option.some.inj (ho'.symm.trans ho))
        exact .inl (e ▸ h)
    · cases ht : flagT b with
      | false =>
        rw [(stepFetch_arm hc hf ht).2, nextFetch, ht]
        rfl
      | true =>
        rw [(stepFetch_thumb hc hf ht).2, nextFetch, ht]
        rfl
  · obtain ⟨-, hirq, hst⟩ := noteThumbStore_signals (advance b) t
    have hflag : flagI (noteThumbStore (advance b) t) = flagI t := by rw [flagI, hst, flagI]
    have hnext := step_of_next hs hstart hdec h
    refine ⟨fun hh => ?_, fun hh hl hi => ⟨_, rfl, ?_⟩, fun hh hq => ⟨_, rfl, ?_⟩⟩
    · rw [hnext, if_neg hh]
    · rw [hnext, if_pos hh, endIteration_dispatch (hirq.trans hl) (hflag.trans hi)]
    · rw [hnext, if_pos hh, endIteration_quiet (by rw [hirq, hflag]; exact hq)]

end Sys2Proof.Machine
end

section
/-! PROOFS. Taking an exception (spec/60_exceptions.md R1103, R1104): what a jump keeps, and what entry leaves. -/

namespace Sys2Proof.Machine

open Sys2Proof Sys2Proof.Claims

/-! ### The frame of a jump (R410) -/

theorem refill_devices {s : State} (a : Word) (n : Width) (h : allFlat s.params) : KeepsDevices s (refill s a n) := by
  have k := fetchCode_fetch (setReg s 15#4 (a + n.size)) a n false
  have f1 := fetchCode_devices (s := setReg s 15#4 (a + n.size)) a n false h
  have f2 := fetchCode_devices (s :=
    { (chargedFetch (setReg s 15#4 (a + n.size)) a n false).2 with
      slot0 := (chargedFetch (setReg s 15#4 (a + n.size)) a n false).1 }) (a + n.size) n true (k.params.symm ▸ h)
  exact ⟨f2.1.trans f1.1, f2.2.trans f1.2, f2.3.trans f1.3, f2.4.trans f1.4, f2.5.trans f1.5, f2.6.trans f1.6,
    f2.7.trans f1.7⟩

theorem refill_cache {s : State} (a : Word) (n : Width) (h : cachingActive s = false) :
    KeepsCache s (refill s a n) := by
  have k := fetchCode_fetch (setReg s 15#4 (a + n.size)) a n false
  have f1 := fetchCode_cache (s := setReg s 15#4 (a + n.size)) a n false h
  have f2 := fetchCode_cache (s :=
    { (chargedFetch (setReg s 15#4 (a + n.size)) a n false).2 with
      slot0 := (chargedFetch (setReg s 15#4 (a + n.size)) a n false).1 }) (a + n.size) n true
    ((congrArg (fun w : Word => w.getLsbD 12) k.ctrl).trans h)
  exact ⟨f2.1.trans f1.1, f2.2.trans f1.2⟩

/-- A jump selects its state and refills the slots (R410). -/
theorem jumpTo_refill (s : State) (a : Word) :
    ∃ c b n, jumpTo s a = refill { s with cpsr := c, thumbStale := none } b n := by
  unfold jumpTo
  split <;> exact ⟨_, _, _, rfl⟩

/-- A jump changes the program counter, the state bit and what a fetch changes, and nothing else. -/
theorem jumpTo_frame (s : State) (a : Word) : JumpFrame [15#4] [5] s (jumpTo s a) where
  regs i hi := (jumpTo_keep s a).regs i (by simpa using hi)
  status i hi := by rw [jumpTo_cpsr, getLsbD_setBit, if_neg fun e => hi (by simp [e.1])]
  bytes k _ := by rw [(jumpTo_keep s a).mem]
  banks := by obtain ⟨⟩ := jumpTo_keep s a; constructor <;> assumption
  spsr b _ := by obtain ⟨⟩ := jumpTo_keep s a; cases b <;> assumption
  system := by obtain ⟨⟩ := jumpTo_keep s a; constructor <;> assumption
  cache h := by
    obtain ⟨c, b, n, e⟩ := jumpTo_refill s a
    obtain ⟨hi, hr⟩ := refill_cache (s := { s with cpsr := c, thumbStale := none }) b n h
    rw [e]
    exact ⟨hi, hr⟩
  devices h := by
    obtain ⟨c, b, n, e⟩ := jumpTo_refill s a
    obtain ⟨⟩ := refill_devices (s := { s with cpsr := c, thumbStale := none }) b n h
    rw [e]
    constructor <;> assumption

/-! ### The state an exception jumps from (R1103) -/

/-- The status saved and replaced, the banks exchanged, and the link set: entry but for its jump. -/
def beforeVector (s : State) (k : Exc) (ret : Word) : State :=
  setReg (replaceCpsr (setBankSpsr s (excBank k) s.cpsr) (excStatus s k)) 14#4 ret

theorem enterException_eq (s : State) (k : Exc) (ret : Word) :
    enterException s k ret = jumpTo (beforeVector s k ret) (s.exceptionBase + excOffset k) := rfl

theorem bankSpsr_setBankSpsr (s : State) (b c : BankMode) (v : Word) :
    bankSpsr (setBankSpsr s b v) c = if c = b then v else bankSpsr s c := by cases b <;> cases c <;> rfl

/-- A saved status written is an exchange of nothing, but for the saved status. -/
theorem setBankSpsr_keeps (s : State) (b : BankMode) (v : Word) :
    SameBanks s (setBankSpsr s b v) ∧ (setBankSpsr s b v).mem = s.mem ∧ (setBankSpsr s b v).cpsr = s.cpsr ∧
      KeepsSystem s (setBankSpsr s b v) ∧ KeepsCache s (setBankSpsr s b v) ∧ KeepsDevices s (setBankSpsr s b v) := by
  cases b <;> exact ⟨⟨rfl, by constructor <;> rfl⟩, rfl, rfl, by constructor <;> rfl, by constructor <;> rfl,
    by constructor <;> rfl⟩

/-- A status bit from the mode field up, in the handler's status (R1104). -/
theorem getLsbD_excStatus (s : State) (k : Exc) {i : Nat} (h : 5 ≤ i) : (excStatus s k).getLsbD i =
    if i = 5 then false else if i = 7 then true else if i = 6 then excMasksF s.params k || flagF s
    else s.cpsr.getLsbD i := by
  have hbase : ((s.cpsr &&& ~~~0x1F#32) ||| (bankMode (excBank k)).setWidth 32).getLsbD i = s.cpsr.getLsbD i := by
    by_cases hi : i < 32
    · have mask : (~~~0x1F#32).getLsbD i = true := by interval_cases i <;> rfl
      rw [BitVec.getLsbD_or, BitVec.getLsbD_and, mask, BitVec.getLsbD_setWidth, BitVec.getLsbD_of_ge _ _ h]
      simp
    · rw [BitVec.getLsbD_of_ge _ _ (by omega), BitVec.getLsbD_of_ge _ _ (by omega)]
  unfold excStatus
  dsimp only
  cases excMasksF s.params k with
  | true =>
    simp only [if_true, getLsbD_setBit, hbase, Bool.true_or]
    split_ifs <;> first | rfl | omega
  | false =>
    simp only [Bool.false_eq_true, if_false, getLsbD_setBit, hbase, Bool.false_or]
    by_cases h6 : i = 6
    · subst h6
      rfl
    · split_ifs <;> first | rfl | omega

section Entry
variable (s : State) (k : Exc) (ret : Word)

theorem curMode_setBankSpsr (b : BankMode) (v : Word) : curMode (setBankSpsr s b v) = curMode s :=
  congrArg modeOf (setBankSpsr_keeps s b v).2.2.1

theorem beforeVector_cpsr : (beforeVector s k ret).cpsr = setBit (excStatus s k) 24 false := replaceCpsr_cpsr _ _

/-- The registers and the banks before the link is set are those of an exchange for the new mode. -/
theorem replaceCpsr_sameBanks : SameBanks (switchMode s (curMode s) (bankMode (excBank k)))
    (replaceCpsr (setBankSpsr s (excBank k) s.cpsr) (excStatus s k)) := by
  have h : SameBanks s { setBankSpsr s (excBank k) s.cpsr with cpsr := setBit (excStatus s k) 24 false } := by
    obtain ⟨hr, ⟨⟩⟩ := (setBankSpsr_keeps s (excBank k) s.cpsr).1
    exact ⟨hr, by constructor <;> assumption⟩
  unfold replaceCpsr
  rw [curMode_setBankSpsr, modeOf_excStatus]
  exact h.switchMode _ _

/-- What is left alone before the vector is jumped to: everything but the registers, the banks, the status and the saved
status. -/
theorem beforeVector_keeps : (beforeVector s k ret).mem = s.mem ∧ KeepsSystem s (beforeVector s k ret) ∧
    KeepsCache s (beforeVector s k ret) ∧ KeepsDevices s (beforeVector s k ret) := by
  obtain ⟨-, hm, -, hs, hc, hd⟩ := setBankSpsr_keeps s (excBank k) s.cpsr
  obtain ⟨-, em, -, es, ec, ed, -, -⟩ := switchMode_keeps
    { setBankSpsr s (excBank k) s.cpsr with cpsr := setBit (excStatus s k) 24 false }
    (curMode (setBankSpsr s (excBank k) s.cpsr)) (modeOf (excStatus s k))
  exact ⟨em.trans hm, ⟨es.1.trans hs.1, es.2.trans hs.2, es.3.trans hs.3, es.4.trans hs.4, es.5.trans hs.5,
    es.6.trans hs.6, es.7.trans hs.7, es.8.trans hs.8⟩, ⟨ec.1.trans hc.1, ec.2.trans hc.2⟩,
    ⟨ed.1.trans hd.1, ed.2.trans hd.2, ed.3.trans hd.3, ed.4.trans hd.4, ed.5.trans hd.5, ed.6.trans hd.6,
      ed.7.trans hd.7⟩⟩

theorem beforeVector_spsr (b : BankMode) :
    bankSpsr (beforeVector s k ret) b = if b = excBank k then s.cpsr else bankSpsr s b := by
  have h := (switchMode_keeps { setBankSpsr s (excBank k) s.cpsr with cpsr := setBit (excStatus s k) 24 false }
    (curMode (setBankSpsr s (excBank k) s.cpsr)) (modeOf (excStatus s k))).spsr b
  rw [← bankSpsr_setBankSpsr s (excBank k) b s.cpsr]
  exact h

end Entry

/-- Every vector is at an even address (R1103, R126). -/
theorem vector_even {s : State} (h : vectorsDerived s) (k : Exc) :
    (s.exceptionBase + excOffset k).getLsbD 0 = false := by
  rw [h, vectorBase]
  split <;> cases k <;> rfl

/-- Taking an exception enters it (R1103, R1104). -/
theorem enterException_entered {s : State} (h : vectorsDerived s) (k : Exc) (ret : Word) :
    Entered k ret s (enterException s k ret) := by
  have hb := vector_even h k
  have hj := jumpTo_frame (beforeVector s k ret) (s.exceptionBase + excOffset k)
  rw [← enterException_eq] at hj
  obtain ⟨hm, hs, hc, hd⟩ := beforeVector_keeps s k ret
  have hbanks := replaceCpsr_sameBanks s k
  have hst : ∀ i, (enterException s k ret).cpsr.getLsbD i =
      if i = 5 then false else if i = 24 then false else (excStatus s k).getLsbD i := fun i => by
    rw [enterException_eq, jumpTo_cpsr, hb, beforeVector_cpsr, getLsbD_setBit, getLsbD_setBit]
    split_ifs <;> first | rfl | omega
  refine
    { saved := ?_, otherSpsr := fun b hb => ?_, mode := ?_, armState := ?_, irqMasked := ?_, fiqMask := ?_,
      jazelle := ?_, otherBits := fun i hi => ?_, link := ?_, pc := ?_, regs := fun i hi => ?_, banks := ?_,
      bytes := fun i hi => ?_,
      system := hs.trans hj.system, cache := fun hn => ?_, devices := fun hf => ?_ }
  · rw [hj.spsr _ (by simp), beforeVector_spsr, if_pos rfl]
  · rw [hj.spsr _ (by simp), beforeVector_spsr, if_neg (by simpa using hb)]
  · rw [← modeOf_excStatus s k]
    apply BitVec.eq_of_getLsbD_eq
    intro i hi
    simp only [curMode, modeOf, BitVec.getLsbD_extractLsb', hst]
    rw [if_neg (by omega), if_neg (by omega)]
  · rw [flagT, hst]
    rfl
  · rw [flagI, hst, getLsbD_excStatus s k (by omega)]
    rfl
  · rw [flagF, hst, getLsbD_excStatus s k (by omega)]
    rfl
  · rw [flagJ, hst]
    rfl
  · simp only [List.mem_cons, List.not_mem_nil, or_false, not_or] at hi
    rw [hst, getLsbD_excStatus s k (by omega)]
    split_ifs <;> first | rfl | omega
  · rw [hj.regs _ (by decide), beforeVector, reg_setReg_same]
  · rw [enterException_eq, jumpTo_pc, if_neg (by rw [hb]; decide)]
  · simp only [List.mem_cons, List.not_mem_nil, or_false, not_or] at hi
    rw [hj.regs _ (by simpa using hi.2), beforeVector, reg_setReg_ne _ _ hi.1]
    exact reg_congr hbanks.regs i
  · obtain ⟨b1, b2, b3, b4, b5⟩ := hbanks.banks
    obtain ⟨j1, j2, j3, j4, j5⟩ := hj.banks
    exact ⟨j1.trans b1, j2.trans b2, j3.trans b3, j4.trans b4, j5.trans b5⟩
  · rw [hj.bytes i hi, hm]
  · exact hc.trans (hj.cache (by rw [cachingActive, hs.ctrl]; exact hn))
  · exact hd.trans (hj.devices (by rw [hs.params]; exact hf))

section Transfer
variable {k : Exc} {ret : Word} {s s' t : State}

/-- The cycles charged to an instruction are outside what entry says. -/
theorem Entered.charged (h : Entered k ret s t) (u : State) : Entered k ret s (charged u t) := by
  obtain ⟨h1, h2, h3, h4, h5, h6, h7, h8, h9, h10, h11, ⟨⟩, h13, ⟨⟩, hc, hd⟩ := h
  exact ⟨h1, h2, h3, h4, h5, h6, h7, h8, h9, h10, h11, by constructor <;> assumption, h13,
    by constructor <;> assumption,
    fun e => ⟨(hc e).1, (hc e).2⟩, fun e => ⟨(hd e).1, (hd e).2, (hd e).3, (hd e).4, (hd e).5, (hd e).6, (hd e).7⟩⟩

/-- A frame that lists no status bit keeps the status. -/
theorem Frame.cpsr_eq {regs : List Reg} {keys : List Nat} (h : Frame regs [] keys s t) : t.cpsr = s.cpsr :=
  BitVec.eq_of_getLsbD_eq fun i _ => h.status i (by simp)

/-- A frame that lists no register keeps the live file, and every frame keeps the banks. -/
theorem Frame.sameBanks {bits keys : List Nat} (h : Frame [] bits keys s t) : SameBanks s t :=
  ⟨Vector.ext fun i hi => h.regs (BitVec.ofFin ⟨i, hi⟩) (by simp), h.banks⟩

/-- Entry from a state is entry from every state that differs in costs alone. -/
theorem Entered.of_frame (hf : Frame [] [] [] s s') (h : Entered k ret s' t) : Entered k ret s t := by
  have hc := hf.cpsr_eq
  have hm : curMode s' = curMode s := congrArg modeOf hc
  have hb := hf.sameBanks.switchMode (curMode s) (bankMode (excBank k))
  have hctrl : cachingActive s' = cachingActive s := by rw [cachingActive, hf.system.ctrl, cachingActive]
  obtain ⟨b1, b2, b3, b4, b5⟩ := hb.banks
  obtain ⟨g1, g2, g3, g4, g5⟩ := h.banks
  rw [hm] at g1 g2 g3 g4 g5
  refine
    { saved := h.saved.trans hc, otherSpsr := fun b hb => (h.otherSpsr b hb).trans (hf.spsr b (by simp)),
      mode := h.mode, armState := h.armState, irqMasked := h.irqMasked, fiqMask := ?_, jazelle := h.jazelle,
      otherBits := fun i hi => (h.otherBits i hi).trans (by rw [hc]), link := h.link, pc := ?_, regs := fun i hi => ?_,
      banks := ⟨g1.trans b1, g2.trans b2, g3.trans b3, g4.trans b4, g5.trans b5⟩,
      bytes := fun i hi => (h.bytes i hi).trans (hf.bytes i hi), system := hf.system.trans h.system,
      cache := fun e => hf.cache.trans (h.cache (hctrl.trans e)),
      devices := fun e => hf.devices.trans (h.devices (hf.system.params.symm ▸ e)) }
  · rw [h.fiqMask, hf.system.params, flagF, hc, flagF]
  · rw [h.pc, hf.system.exceptionBase]
  · rw [h.regs i hi, hm]
    exact reg_congr hb.regs i

end Transfer

end Sys2Proof.Machine
end

section
/-! PROOFS. The loads and stores of one register, ARM and Thumb (spec/43_arm_loadstore.md R650-R669,
spec/48_thumb_mem_branch.md R970-R986): the one body each runs, and what it answers where its access aborts and where it
does not. -/

namespace Sys2Proof.Machine

open Sys2Proof Sys2Proof.Claims

/-! ### The bodies -/

/-- The load of each kind. -/
def loadOf : LoadKind → State → Reg → Reg → Addr → Res Unit
  | .word => loadWord
  | .byte => loadByte
  | .half => loadHalf
  | .signedByte => loadSignedByte
  | .signedHalf => loadSignedHalf

/-- The store of each width. -/
def storeOf : Width → State → Reg → Reg → Addr → Res Unit
  | .word => storeWord
  | .half => storeHalf
  | .byte => storeNarrow .byte

/-- What a load leaves in its register of the bits `v` that the access at `a` gave (R652, R653, R666-R668). -/
def loadResult (a v : Word) : LoadKind → Word
  | .word => ror v (8 * (a.extractLsb' 0 2).toNat)
  | .byte => v
  | .half => v
  | .signedByte => sextByte v
  | .signedHalf => sextHalf v

/-- What a store of a width hands over of its register (R650, R654, R655, R669). -/
def storeSource (s : State) (rd : Reg) : Width → Word
  | .word => storedReg s rd
  | .half => reg s rd
  | .byte => reg s rd

/-- What follows the access of a load: a word goes to the program counter by `LoadWritePC` (R652). -/
def loadEnd (k : LoadKind) (rn rd : Reg) (x : Addr) (v : Word) (t : State) : Res Unit :=
  match k with
  | .word =>
    if rd = 15#4 then
      unpredictableIf (x.address.extractLsb' 0 2 != 0b00#2) .misalignedLoadPc
        (loadWritePc (writeback t x.wb rn x.moved) (loadResult x.address v .word))
    else done (writeback (setReg t rd (loadResult x.address v .word)) x.wb rn x.moved)
  | k => done (writeback (setReg t rd (loadResult x.address v k)) x.wb rn x.moved)

section Bodies
variable {s t : State} {rn rd : Reg} {x : Addr} {k : LoadKind} {n : Width}

theorem loadEnd_reg (hd : rd ≠ 15#4) (v : Word) : loadEnd k rn rd x v t =
    .ok () (writeback (setReg t rd (loadResult x.address v k)) x.wb rn x.moved) := by
  cases k with
  | word => exact if_neg hd
  | byte | half | signedByte | signedHalf => rfl

/-- Every load is its access and what follows it; a halfword's address is even (R208). -/
theorem loadOf_eq (k : LoadKind) (s : State) (rn rd : Reg) (x : Addr) : loadOf k s rn rd x =
    unpredictableIf (oddHalf (loadWidth k) x.address) .misalignedHalf
      ((load s (accessAddr (loadWidth k) x.address) (loadWidth k)).bind (loadEnd k rn rd x)) := by
  cases k with
  | word => exact Res.bind_assoc _ _ _
  | byte | half | signedByte | signedHalf => rfl

/-- Every store is its access and the base written back; a halfword's address is even (R208). -/
theorem storeOf_eq (n : Width) (s : State) (rn rd : Reg) (x : Addr) : storeOf n s rn rd x =
    unpredictableIf (oddHalf n x.address) .misalignedHalf
      ((store s (accessAddr n x.address) n (storeSource s rd n)).bind fun _ t =>
        done (writeback t x.wb rn x.moved)) := by
  cases n <;> rfl

theorem loadOf_ok {v : Word} (hd : rd ≠ 15#4) (ho : oddHalf (loadWidth k) x.address = false)
    (h : load s (accessAddr (loadWidth k) x.address) (loadWidth k) = .ok v t) :
    loadOf k s rn rd x = .ok () (writeback (setReg t rd (loadResult x.address v k)) x.wb rn x.moved) := by
  rw [loadOf_eq, ho, unpredictableIf_false, h, Res.bind_ok, loadEnd_reg hd]

theorem storeOf_ok (ho : oddHalf n x.address = false)
    (h : store s (accessAddr n x.address) n (storeSource s rd n) = .ok () t) :
    storeOf n s rn rd x = .ok () (writeback t x.wb rn x.moved) := by
  rw [storeOf_eq, ho, unpredictableIf_false, h]
  rfl

/-- A load or a store whose access aborts ends in the data abort (R221). -/
theorem loadOf_abort (ho : oddHalf (loadWidth k) x.address = false)
    (h : busAbort s.params (accessAddr (loadWidth k) x.address) (loadWidth k) false = true) :
    loadOf k s rn rd x = raise s .dataAbort := by
  rw [loadOf_eq, ho, unpredictableIf_false, load_abort h]
  rfl

theorem storeOf_abort (ho : oddHalf n x.address = false)
    (h : busAbort s.params (accessAddr n x.address) n true = true) : storeOf n s rn rd x = raise s .dataAbort := by
  rw [storeOf_eq, ho, unpredictableIf_false, store_abort _ h]
  rfl

end Bodies

/-! ### Addressing modes 2 and 3 (R651, R665) -/

/-- The W bit of an indexing, as encoded. -/
def index2W : Index2 → Bool
  | .pre w => w
  | .post => false
  | .translated => true

/-- The operand of addressing mode 2, of either offset. -/
def mode2Operand (s : State) (x : Index2) (u : Bool) (rn rd : Reg) : Offset2 → Res Addr
  | .imm v => mode2Imm s (mode2Pre x) u (index2W x) rn rd v
  | .reg i st rm => mode2Reg s (mode2Pre x) u (index2W x) rn rd i st rm

/-- The operand of addressing mode 3, of either offset. -/
def mode3Operand (s : State) (p u w : Bool) (rn rd : Reg) : Offset3 → Res Addr
  | .imm h l => mode3Imm s p u w rn rd h l
  | .reg z rm => mode3Reg s p u w rn rd z rm

theorem indexed_mode2 (x : Index2) (u : Bool) (b o : Word) :
    indexed (mode2Pre x) u (index2W x) b o = indexed (mode2Pre x) u (mode2Writes x) b o := by cases x <;> rfl

theorem indexed_mode2_wb (x : Index2) (u : Bool) (b o : Word) :
    (indexed (mode2Pre x) u (mode2Writes x) b o).wb = mode2Writes x := by cases x <;> rfl

theorem indexed_mode3_wb (p u w : Bool) (b o : Word) : (indexed p u w b o).wb = mode3Writes p w := by cases p <;> rfl

/-- A case that a condition guards does not arise where the guard refuses it. -/
theorem guarded_false {b x : Bool} (h : (!b || !x) = true) : (b && x) = false := by
  cases b with
  | false => rfl
  | true => simpa using h

theorem guarded_pair_false {b x y : Bool} (h : (!b || (!x && !y)) = true) : (b && x) = false ∧ (b && y) = false := by
  cases b with
  | false => exact ⟨rfl, rfl⟩
  | true => simpa using h

/-- A legal operand of addressing mode 2 is its address (R651). -/
theorem mode2Operand_legal (s : State) {x : Index2} (u : Bool) {rn rd : Reg} {off : Offset2}
    (h : mode2Legal x rn rd off = true) : mode2Operand s x u rn rd off = .ok (mode2Addr s x u rn off) s := by
  obtain ⟨hbase, hoff⟩ := Bool.and_eq_true_iff.1 h
  have hb := guarded_pair_false hbase
  cases off with
  | imm v =>
    simp only [mode2Operand, mode2Imm, indexed_mode2, indexed_mode2_wb, hb, unpredictableIf_false]
    rfl
  | reg i st rm =>
    rw [Bool.and_eq_true, bne_iff_ne] at hoff
    have hpc : (rm == 15#4) = false := beq_false_of_ne hoff.1
    have hm : (mode2Writes x && rn == rm) = false := guarded_false hoff.2
    simp only [mode2Operand, mode2Reg, indexed_mode2, indexed_mode2_wb, hb, hpc, hm, unpredictableIf_false]
    rfl

/-- A legal operand of addressing mode 3 is its address (R665). -/
theorem mode3Operand_legal (s : State) {p : Bool} (u : Bool) {w : Bool} {rn rd : Reg} {off : Offset3}
    (h : mode3Legal p w rn rd off = true) : mode3Operand s p u w rn rd off = .ok (mode3Addr s p u w rn off) s := by
  obtain ⟨hforms, hoff⟩ := Bool.and_eq_true_iff.1 h
  obtain ⟨hpw, hbase⟩ := Bool.and_eq_true_iff.1 hforms
  have hb := guarded_pair_false hbase
  have hw : (!p && w) = false := by cases p with
    | true => rfl
    | false => simpa using hpw
  cases off with
  | imm hi lo =>
    simp only [mode3Operand, mode3Imm, mode3, indexed_mode3_wb, hb, hw, unpredictableIf_false]
    rfl
  | reg z rm =>
    rw [Bool.and_eq_true, bne_iff_ne] at hoff
    have hpc : (rm == 15#4) = false := beq_false_of_ne hoff.2
    simp only [mode3Operand, mode3Reg, mode3, indexed_mode3_wb, hb, hw, hoff.1, hpc, unpredictableIf_false,
      shouldBe_true]
    rfl

/-! ### The instructions of addressing modes 2 and 3 -/

/-- The fault that shuts the program counter out as the register of an instruction of addressing mode 2 (R653-R659). -/
def pcFault2 : Op2 → Index2 → Option Fault
  | .ldr, .translated => some .loadTranslatedPc
  | .ldr, .pre _ => none
  | .ldr, .post => none
  | .ldrb, _ => some .loadBytePc
  | .str, _ => none
  | .strb, _ => some .storeBytePc

/-- The fault that shuts the program counter out, where there is one. -/
def refusingPc (f : Option Fault) (rd : Reg) (r : Res Unit) : Res Unit :=
  match f with
  | some e => unpredictableIf (rd == 15#4) e r
  | none => r

/-- What an operation of addressing mode 2 does with its address. -/
def body2 : Op2 → State → Reg → Reg → Addr → Res Unit
  | .ldr => loadOf .word
  | .ldrb => loadOf .byte
  | .str => storeOf .word
  | .strb => storeOf .byte

/-- The offset register of a form of addressing mode 3. -/
def offset3Reg : Offset3 → Option Reg
  | .imm _ _ => none
  | .reg _ rm => some rm

/-- What an operation of addressing mode 3 does with its address. -/
def body3 : Op3 → Offset3 → State → Reg → Reg → Addr → Res Unit
  | .ldrh, _ => loadOf .half
  | .ldrsb, _ => loadOf .signedByte
  | .ldrsh, _ => loadOf .signedHalf
  | .strh, _ => storeOf .half
  | .ldrd, off => loadDouble (offset3Reg off)
  | .strd, _ => storeDouble

/-- The register check of an operation of addressing mode 3 (R666-R671). -/
def checked3 : Op3 → Reg → Res Unit → Res Unit
  | .ldrh, rd, r => unpredictableIf (rd == 15#4) .loadHalfPc r
  | .ldrsb, rd, r => unpredictableIf (rd == 15#4) .loadHalfPc r
  | .ldrsh, rd, r => unpredictableIf (rd == 15#4) .loadHalfPc r
  | .strh, rd, r => unpredictableIf (rd == 15#4) .storeHalfPc r
  | .ldrd, rd, r => pairChecked rd r
  | .strd, rd, r => pairChecked rd r

theorem exec_mode2 (op : Op2) (x : Index2) (cond : BitVec 4) (u : Bool) (rn rd : Reg) (off : Offset2) (s : State) :
    exec (mode2Instr op x cond u rn rd off) s = runIf cond s fun s =>
      refusingPc (pcFault2 op x) rd ((mode2Operand s x u rn rd off).bind fun a t => body2 op t rn rd a) := by
  cases op <;> cases x <;> cases off <;> rfl

theorem exec_mode3 (op : Op3) (cond : BitVec 4) (p u w : Bool) (rn rd : Reg) (off : Offset3) (s : State) :
    exec (mode3Instr op cond p u w rn rd off) s = runIf cond s fun s =>
      checked3 op rd ((mode3Operand s p u w rn rd off).bind fun a t => body3 op off t rn rd a) := by
  cases op <;> cases off <;> rfl

section Legal
variable {s : State} {cond : BitVec 4} {p u w : Bool} {rn rd : Reg}

/-- Rd = 15 is legal where no fault shuts it out (R652-R659). -/
theorem refusingPc_legal {op : Op2} {x : Index2}
    (hd : (rd != 15#4 || op == .str || (op == .ldr && x != .translated)) = true) (r : Res Unit) :
    refusingPc (pcFault2 op x) rd r = r := by
  by_cases e : rd = 15#4
  · have hn : pcFault2 op x = none := by
      rw [e] at hd
      cases op <;> cases x <;> first | rfl | cases hd
    rw [hn]
    rfl
  · have hb : (rd == 15#4) = false := by simpa using e
    unfold refusingPc
    split
    · rw [hb, unpredictableIf_false]
    · rfl

theorem exec_mode2_legal {op : Op2} {x : Index2} {off : Offset2} (hc : passes s cond)
    (h : mode2Legal x rn rd off = true)
    (hd : (rd != 15#4 || op == .str || (op == .ldr && x != .translated)) = true) :
    exec (mode2Instr op x cond u rn rd off) s = finish s (body2 op (begun s) rn rd (mode2Addr s x u rn off)) := by
  rw [exec_mode2, runIf_pass _ hc, run, refusingPc_legal hd, mode2Operand_legal _ u h]
  rfl

theorem exec_mode3_legal {op : Op3} {off : Offset3} (hc : passes s cond) (h : mode3Legal p w rn rd off = true)
    (hd : ∀ r, checked3 op rd r = r) :
    exec (mode3Instr op cond p u w rn rd off) s =
      finish s (body3 op off (begun s) rn rd (mode3Addr s p u w rn off)) := by
  rw [exec_mode3, runIf_pass _ hc, run, hd, mode3Operand_legal _ u h]
  rfl

/-- Rd = 15 is all that the halfword and signed-byte instructions shut out (R666-R669). -/
theorem checked3_half {op : Op3} (hd : rd ≠ 15#4) (h1 : op ≠ .ldrd) (h2 : op ≠ .strd) (r : Res Unit) :
    checked3 op rd r = r := by
  have hb : (rd == 15#4) = false := by simpa using hd
  cases op with
  | ldrd => exact absurd rfl h1
  | strd => exact absurd rfl h2
  | ldrh | ldrsb | ldrsh | strh => rw [checked3, hb, unpredictableIf_false]

end Legal

/-- What a single transfer does with its address. -/
def singleBody (y : Single) : State → Reg → Reg → Addr → Res Unit :=
  match singleLoad y with
  | some k => loadOf k
  | none => storeOf (singleWidth y)

/-- A legal single transfer runs its one body (R651-R669). -/
theorem exec_single {s : State} {y : Single} {cond : BitVec 4} {rn rd : Reg} (hc : passes s cond)
    (h : singleLegal y rn rd = true) :
    exec (singleInstr y cond rn rd) s = finish s (singleBody y (begun s) rn rd (singleAddr s y rn)) := by
  cases y with
  | mode2 op x u off =>
    rw [singleLegal, Bool.and_eq_true] at h
    rw [singleInstr, exec_mode2_legal hc h.1 h.2]
    cases op <;> rfl
  | mode3 op p u w off =>
    simp only [singleLegal, Bool.and_eq_true, bne_iff_ne] at h
    obtain ⟨⟨⟨hl, hd⟩, h1⟩, h2⟩ := h
    rw [singleInstr, exec_mode3_legal hc hl (checked3_half hd h1 h2)]
    cases op with
    | ldrd => exact absurd rfl h1
    | strd => exact absurd rfl h2
    | ldrh | ldrsb | ldrsh | strh => rfl

theorem loadWidth_single {y : Single} {k : LoadKind} (h : singleLoad y = some k) : loadWidth k = singleWidth y := by
  cases y with
  | mode2 op x u off => cases op <;> cases h <;> rfl
  | mode3 op p u w off => cases op <;> cases h <;> rfl

/-! ### The Thumb transfers -/

/-- A field scaled by a power of two is the field above that many zero bits (R979). -/
theorem scaled_eq_append {m : Nat} (k : Nat) (imm : BitVec m) :
    imm.setWidth 32 * BitVec.ofNat 32 (2 ^ k) = (imm ++ 0#k).setWidth 32 := by
  apply BitVec.eq_of_toNat_eq
  simp only [BitVec.toNat_mul, BitVec.toNat_setWidth, BitVec.toNat_ofNat, BitVec.toNat_append, Nat.shiftLeft_eq,
    Nat.zero_mod, Nat.or_zero]
  exact (Nat.mul_mod ..).symm

/-- A Thumb load is the one body of its kind (R970-R986). -/
theorem exec_thumbLoad {s : State} {i : Instr} {d : Reg} {a : Word} {k : LoadKind}
    (h : thumbLoad s i = some (d, a, k)) : ∃ rn, exec i s = finish s (loadOf k (begun s) rn d (plain a)) := by
  unfold thumbLoad at h
  split at h <;> obtain ⟨rfl, rfl, rfl⟩ := h
  case h_1 rd imm | h_10 rd imm => rw [← scaled_eq_append 2 imm]; exact ⟨_, rfl⟩
  case h_7 imm rn rd => rw [← scaled_eq_append 2 imm]; exact ⟨_, rfl⟩
  case h_8 imm rn rd => rw [← BitVec.mul_one (imm.setWidth 32)]; exact ⟨_, rfl⟩
  case h_9 imm rn rd => rw [← scaled_eq_append 1 imm]; exact ⟨_, rfl⟩
  all_goals exact ⟨_, rfl⟩

/-- A Thumb store is the one body of its width (R971-R985). -/
theorem exec_thumbStore {s : State} {i : Instr} {d : Reg} {a : Word} {n : Width} (h : thumbStore s i = some (d, a, n)) :
    ∃ rn, exec i s = finish s (storeOf n (begun s) rn d (plain a)) := by
  unfold thumbStore at h
  split at h <;> obtain ⟨rfl, rfl, rfl⟩ := h
  case h_4 imm rn rd => rw [← scaled_eq_append 2 imm]; exact ⟨_, rfl⟩
  case h_5 imm rn rd => rw [← BitVec.mul_one (imm.setWidth 32)]; exact ⟨_, rfl⟩
  case h_6 imm rn rd => rw [← scaled_eq_append 1 imm]; exact ⟨_, rfl⟩
  case h_7 rd imm => rw [← scaled_eq_append 2 imm]; exact ⟨_, rfl⟩
  all_goals exact ⟨_, rfl⟩

end Sys2Proof.Machine
end

section
/-! PROOFS. Accesses that abort (spec/20_memory.md R221, spec/43_arm_loadstore.md R650): O28. -/

namespace Sys2Proof.Machine

open Sys2Proof Sys2Proof.Claims

/-! ### An instruction that a data abort ends (R1104, R1111) -/

theorem returnAddress_dataAbort {s t : State} (hpc : reg t 15#4 = reg s 15#4) (hst : t.cpsr = s.cpsr) :
    excReturn t .dataAbort = returnAddress s .dataAbort := by
  have ht : flagT t = flagT s := by rw [flagT, hst, flagT]
  rw [excReturn, instrAddr, returnAddress, ht, hpc]
  split <;> bv_omega

/-- An abort in the state `m` enters the exception from `m`, with the return address of the instruction. -/
theorem completes_entered {i : Instr} {s m : State} (hx : exec i s = finish s (raise m .dataAbort))
    (hv : vectorsDerived s) (hpc : reg m 15#4 = reg s 15#4) (hst : m.cpsr = s.cpsr) (hs : KeepsSystem s m) :
    completes i s (Entered .dataAbort (returnAddress s .dataAbort) m) := by
  have hvm : vectorsDerived m := by rw [vectorsDerived, hs.exceptionBase, hs.ctrl]; exact hv
  refine ⟨_, hx, ?_⟩
  rw [← returnAddress_dataAbort hpc hst]
  exact (enterException_entered hvm .dataAbort _).charged s

/-- The same, said of a state that differs from the aborting one in costs alone. -/
theorem completes_abort {i : Instr} {s m m' : State} {regs : List Reg} {keys : List Nat}
    (hx : exec i s = finish s (raise m' .dataAbort)) (hv : vectorsDerived s) (hf : Frame regs [] keys s m')
    (hpc : 15#4 ∉ regs) (hm : Frame [] [] [] m m') :
    completes i s (Entered .dataAbort (returnAddress s .dataAbort) m) := by
  obtain ⟨t, ht, he⟩ := completes_entered hx hv (hf.regs _ hpc) hf.cpsr_eq hf.system
  exact ⟨t, ht, he.of_frame hm⟩

/-- The same where the aborting state differs in costs alone from the state the instruction began in. -/
theorem completes_abort_at_once {i : Instr} {s m : State} (hx : exec i s = finish s (raise m .dataAbort))
    (hv : vectorsDerived s) (hf : Frame [] [] [] s m) :
    completes i s (Entered .dataAbort (returnAddress s .dataAbort) s) :=
  completes_abort hx hv hf List.not_mem_nil hf

/-! ### Doublewords (R670, R671) -/

theorem mode3Addr_wb (s : State) (p u w : Bool) (rn : Reg) (off : Offset3) :
    (mode3Addr s p u w rn off).wb = mode3Writes p w := indexed_mode3_wb p u w _ _

/-- The two loads of LDRD, low word first (R670). -/
def doubleLoads (s : State) (rn rd : Reg) (x : Addr) : Res Unit :=
  (load s x.address .word).bind fun v t =>
    (load (setReg t rd v) (x.address + 4#32) .word).bind fun v' t' =>
      done (writeback (setReg t' (rd + 1#4) v') x.wb rn x.moved)

/-- The two stores of STRD, low word first (R671). -/
def doubleStores (s : State) (rn rd : Reg) (x : Addr) : Res Unit :=
  (store s x.address .word (reg s rd)).bind fun _ t =>
    (store t (x.address + 4#32) .word (reg t (rd + 1#4))).bind fun _ t' => done (writeback t' x.wb rn x.moved)

theorem loadDouble_legal {rm : Option Reg} {s : State} {rn rd : Reg} {x : Addr}
    (hb : (x.wb && (rn == rd || rn == rd + 1#4)) = false) (ho : (rm == some rd || rm == some (rd + 1#4)) = false) :
    loadDouble rm s rn rd x = doubleAligned x (doubleLoads s rn rd x) := by
  rw [loadDouble, hb, ho]
  rfl

section Doubles
variable {s : State} {cond : BitVec 4} {p u w : Bool} {rn rd : Reg} {off : Offset3}

/-- A legal pair is even and not R14, so no part of it is the program counter. -/
theorem pairLegal_pair {load : Bool} (h : pairLegal load p w rn rd off = true) :
    (rd.getLsbD 0 || rd == 14#4) = false := by
  revert h
  cases he : rd.getLsbD 0 <;> cases h14 : rd == 14#4 <;> simp [pairLegal, he, h14, bne]

/-- The base and the offset register of a legal LDRD are outside its pair (R670). -/
theorem pairLegal_load (h : pairLegal true p w rn rd off = true) :
    (mode3Writes p w && (rn == rd || rn == rd + 1#4)) = false ∧
      (offset3Reg off == some rd || offset3Reg off == some (rd + 1#4)) = false := by
  simp only [pairLegal, Bool.not_true, Bool.false_or, Bool.and_eq_true] at h
  obtain ⟨-, hbase, hoff⟩ := h
  constructor
  · revert hbase
    cases mode3Writes p w <;> simp
  · cases off with
    | imm hi lo => rfl
    | reg z rm => simpa [offset3Reg] using hoff

theorem pairLegal_ne_pc {load : Bool} (h : pairLegal load p w rn rd off = true) : rd ≠ 15#4 ∧ rd + 1#4 ≠ 15#4 :=
  pair_ne_pc rd (pairLegal_pair h)

theorem exec_ldrd (hc : passes s cond) (h : mode3Legal p w rn rd off = true)
    (hp : pairLegal true p w rn rd off = true) :
    exec (mode3Instr .ldrd cond p u w rn rd off) s = finish s
      (doubleAligned (mode3Addr s p u w rn off) (doubleLoads (begun s) rn rd (mode3Addr s p u w rn off))) := by
  obtain ⟨hbase, hoff⟩ := pairLegal_load hp
  rw [← mode3Addr_wb s p u w rn off] at hbase
  rw [exec_mode3_legal hc h fun r => by rw [checked3, pairChecked, pairLegal_pair hp, unpredictableIf_false]]
  rw [body3, loadDouble_legal hbase hoff]

theorem exec_strd (hc : passes s cond) (h : mode3Legal p w rn rd off = true)
    (hp : pairLegal false p w rn rd off = true) :
    exec (mode3Instr .strd cond p u w rn rd off) s = finish s
      (doubleAligned (mode3Addr s p u w rn off) (doubleStores (begun s) rn rd (mode3Addr s p u w rn off))) :=
  exec_mode3_legal hc h fun r => by rw [checked3, pairChecked, pairLegal_pair hp, unpredictableIf_false]

end Doubles

theorem doubleAligned_of {x : Addr} (h : x.address.extractLsb' 0 3 = 0#3) (r : Res Unit) : doubleAligned x r = r := by
  rw [doubleAligned, h]
  rfl

theorem doubleAligned_fault {x : Addr} (h : x.address.extractLsb' 0 3 ≠ 0#3) (r : Res Unit) :
    doubleAligned x r = .fault .misalignedDouble := by
  rw [doubleAligned, bne_iff_ne.2 h]
  rfl

section DoubleAborts
variable {s : State} {cond : BitVec 4} {p u w : Bool} {rn rd : Reg} {off : Offset3} {f : Word × Nat} {a : Word}

/-- LDRD: the first access aborts, or the second does with the first register loaded. -/
theorem ldrd_aborts (hc : passes s cond) (hv : vectorsDerived s) (h : mode3Legal p w rn rd off = true)
    (ha : (mode3Addr s p u w rn off).address = a) (h8 : a.extractLsb' 0 3 = 0#3)
    (hp : pairLegal true p w rn rd off = true) :
    (busAbort s.params a .word false = true →
      completes (mode3Instr .ldrd cond p u w rn rd off) s (Entered .dataAbort (returnAddress s .dataAbort) s)) ∧
    (flatAccess s f a .word false → busAbort s.params (a + 4#32) .word false = true →
      completes (mode3Instr .ldrd cond p u w rn rd off) s
        (Entered .dataAbort (returnAddress s .dataAbort) (setReg s rd (word4At s f a)))) := by
  have hx := exec_ldrd (u := u) hc h hp
  rw [doubleAligned_of (ha ▸ h8), doubleLoads, ha] at hx
  refine ⟨fun hb => ?_, fun hf hb => ?_⟩
  · rw [load_abort (s := begun s) hb] at hx
    exact completes_abort_at_once hx hv (.begun s)
  · rw [load_flat (s := begun s) hf.2 hf.1, Res.bind_ok, load_abort (by exact hb)] at hx
    have hread : flatRead (begun s).mem f a Width.word.bytes = word4At s f a := flatRead_word s f a
    rw [hread] at hx
    have hframe : Frame [rd] [] [] s (setReg (recordAccess (begun s) a .word) rd (word4At s f a)) :=
      ((Frame.begun s).recordAccess a .word).setReg _ (List.mem_singleton_self rd)
    have hcosts : Frame [] [] [] (setReg s rd (word4At s f a))
        (setReg (recordAccess (begun s) a .word) rd (word4At s f a)) := (Frame.refl _).costs _ _ _
    exact completes_abort hx hv hframe (by simpa using (pairLegal_ne_pc hp).1.symm) hcosts

/-- STRD: the first access aborts, or the second does with the first word stored. -/
theorem strd_aborts (hc : passes s cond) (hv : vectorsDerived s) (h : mode3Legal p w rn rd off = true)
    (ha : (mode3Addr s p u w rn off).address = a) (h8 : a.extractLsb' 0 3 = 0#3)
    (hp : pairLegal false p w rn rd off = true) :
    (busAbort s.params a .word true = true →
      completes (mode3Instr .strd cond p u w rn rd off) s (Entered .dataAbort (returnAddress s .dataAbort) s)) ∧
    (memoryCanonical s → flatAccess s f a .word true → distinctBytes f a 4 →
      busAbort s.params (a + 4#32) .word true = true →
      ∃ m, Frame [] [] (accessKeys f a 4) s m ∧ word4At m f a = reg s rd ∧
        completes (mode3Instr .strd cond p u w rn rd off) s (Entered .dataAbort (returnAddress s .dataAbort) m)) := by
  have hx := exec_strd (u := u) hc h hp
  rw [doubleAligned_of (ha ▸ h8), doubleStores, ha] at hx
  refine ⟨fun hb => ?_, fun hm hf hd hb => ?_⟩
  · rw [store_abort (s := begun s) _ hb] at hx
    exact completes_abort_at_once hx hv (.begun s)
  · rw [store_flat (s := begun s) _ hf.2 hf.1, Res.bind_ok, store_abort _ (by exact hb)] at hx
    have hframe : Frame [] [] (accessKeys f a 4) s
        { recordAccess (begun s) a .word with mem := flatWrite s.mem f a 4 (reg s rd) } :=
      ((Frame.begun s).recordAccess a .word).setMem fun k hk => read_flatWrite_of_notMem _ _ _ _ _ hk
    exact ⟨_, hframe, word4At_of_bytes fun k hk => read_flatWrite hm _ hd hk,
      completes_abort hx hv hframe List.not_mem_nil (.refl _)⟩

end DoubleAborts

/-! ### Swaps (R700, R701) -/

theorem swapChecks_legal {rn rd rm : Reg} (h : firstOf (swapCases rn rd 0#4 rm) = none) (r : Res Unit) :
    swapChecks rn rd 0#4 rm r = r := by
  obtain ⟨hpc, hbase⟩ : (rd == 15#4 || rm == 15#4 || rn == 15#4) = false ∧ (rn == rm || rn == rd) = false := by
    simpa only [swapCases, List.forall_mem_cons, List.not_mem_nil, false_imp_iff, implies_true, and_true,
      bne_self_eq_false, true_and] using firstOf_eq_none.1 h
  rw [swapChecks, hpc, hbase]
  rfl

/-- A read and then a write of one place, of which one aborts, changes nothing but costs. -/
theorem readWrite_abort {s : State} {f : Word × Nat} {a v : Word} {n : Width} {g : Word → Unit → State → Res Unit}
    (h : busAbort s.params a n false = true ∨ flatAccess s f a n false ∧ busAbort s.params a n true = true) :
    ∃ m, Frame [] [] [] s m ∧
      ((load s a n).bind fun w t => (store t a n v).bind (g w)) = raise m .dataAbort := by
  rcases h with h | ⟨hf, h⟩
  · exact ⟨s, .refl s, by rw [load_abort h]; rfl⟩
  · refine ⟨recordAccess s a n, (Frame.refl s).recordAccess a n, ?_⟩
    rw [load_flat hf.2 hf.1, Res.bind_ok, store_abort _ (by exact h)]
    rfl

/-- Settles O28: each instruction runs up to the access that aborts, and the exception is entered from there. -/
theorem dataAbortTaken : Obligations.DataAbortTaken := by
  intro s cond rn rd hc hv
  refine ⟨fun y hl ho hb => ?_, fun p u w off f hl h8 => ⟨fun hp => ldrd_aborts hc hv hl rfl h8 hp,
    fun hp => strd_aborts hc hv hl rfl h8 hp⟩, fun rm f hl => ⟨fun hb => ?_, fun hb => ?_⟩,
    fun i => ⟨fun d a k hi ho hb => ?_, fun d a n hi ho hb => ?_⟩⟩
  · have hx := exec_single hc hl
    have hbody : singleBody y (begun s) rn rd (singleAddr s y rn) = raise (begun s) .dataAbort := by
      unfold singleBody singleStores at *
      cases hk : singleLoad y with
      | some k =>
        rw [hk, ← loadWidth_single hk] at hb
        rw [← loadWidth_single hk] at ho
        exact loadOf_abort ho hb
      | none =>
        rw [hk] at hb
        exact storeOf_abort ho hb
    exact completes_abort_at_once (hx.trans (congrArg _ hbody)) hv (.begun s)
  · have hx : exec (.swp cond rn rd 0#4 rm) s = finish s (swapChecks rn rd 0#4 rm _) := runIf_pass _ hc
    obtain ⟨m, hm, hbody⟩ := readWrite_abort (s := begun s) hb
    rw [swapChecks_legal hl] at hx
    exact completes_abort_at_once (hx.trans (congrArg _ ((Res.bind_assoc _ _ _).trans hbody))) hv
      ((Frame.begun s).trans hm)
  · have hx : exec (.swpb cond rn rd 0#4 rm) s = finish s (swapChecks rn rd 0#4 rm _) := runIf_pass _ hc
    obtain ⟨m, hm, hbody⟩ := readWrite_abort (s := begun s) hb
    rw [swapChecks_legal hl] at hx
    exact completes_abort_at_once (hx.trans (congrArg _ hbody)) hv ((Frame.begun s).trans hm)
  · obtain ⟨r, hx⟩ := exec_thumbLoad hi
    exact completes_abort_at_once (hx.trans (congrArg _ (loadOf_abort ho hb))) hv (.begun s)
  · obtain ⟨r, hx⟩ := exec_thumbStore hi
    exact completes_abort_at_once (hx.trans (congrArg _ (storeOf_abort ho hb))) hv (.begun s)

end Sys2Proof.Machine
end

section
/-! PROOFS. The halfword, signed and doubleword transfers of flat memory (spec/43_arm_loadstore.md R665-R671): O31 and
O32. -/

namespace Sys2Proof.Machine

open Sys2Proof Sys2Proof.Claims

/-! ### What flat memory gives and takes (R205, R206) -/

theorem byteAt_eq (s : State) (f : Word × Nat) (a : Word) : flatRead s.mem f a 1 = (byteAt s f a).setWidth 32 :=
  flatRead_one s.mem f a

theorem halfAt_eq (s : State) (f : Word × Nat) (a : Word) : flatRead s.mem f a 2 = (halfAt s f a).setWidth 32 :=
  flatRead_two s.mem f a

/-- The rotation of a misaligned word load (R652). -/
theorem ror_misaligned (a v : Word) : ror v (8 * (a.extractLsb' 0 2).toNat) = v.rotateRight (8 * (a.toNat % 4)) := by
  have h : (a.extractLsb' 0 2).toNat = a.toNat % 4 := by simp [BitVec.extractLsb'_toNat]
  rw [ror, h, Nat.mod_eq_of_lt (by omega)]

/-- A load of each kind leaves its value of the bytes of flat memory (R652, R653, R666-R668). -/
theorem loadResult_flat (s : State) (f : Word × Nat) (a : Word) (k : LoadKind) :
    loadResult a (flatRead s.mem f (accessAddr (loadWidth k) a) (loadWidth k).bytes) k = loadedValue s f a k := by
  cases k with
  | word => exact (congrArg (ror · _) (flatRead_word s f (alignWord a))).trans (ror_misaligned a _)
  | byte => exact byteAt_eq s f a
  | half => exact halfAt_eq s f a
  | signedByte =>
    refine (congrArg sextByte (byteAt_eq s f a)).trans ?_
    rw [sextByte, BitVec.setWidth_setWidth_of_le _ (by omega), BitVec.setWidth_eq]
    rfl
  | signedHalf =>
    refine (congrArg sextHalf (halfAt_eq s f a)).trans ?_
    rw [sextHalf, BitVec.setWidth_setWidth_of_le _ (by omega), BitVec.setWidth_eq]
    rfl

/-- Bytes written to distinct places are the value stored (R206). -/
theorem storedAt_flatWrite {s t : State} {f : Word × Nat} {a v : Word} {n : Width} (hm : memoryCanonical s)
    (hd : distinctBytes f a n.bytes) (ht : t.mem = flatWrite s.mem f a n.bytes v) : storedAt t f a n v := by
  have hb : ∀ k, k < n.bytes → t.mem.read (storageKey f (a + BitVec.ofNat 32 k)) = byteOf v k :=
    fun k hk => by rw [ht]; exact read_flatWrite hm v hd hk
  have h0 : byteAt t f a = byteOf v 0 := by simpa [byteAt] using hb 0 (by cases n <;> decide)
  cases n with
  | byte => exact h0.trans (byteOf_eq_extract v 0)
  | half =>
    have h1 : byteAt t f (a + 1#32) = byteOf v 1 := hb 1 (by decide)
    rw [storedAt, halfAt, h0, h1, byteOf_append]
    rfl
  | word => exact word4At_of_bytes hb

/-! ### A completed transfer of one register -/

/-- An instruction completes where its body does. -/
theorem completes_finish {i : Instr} {s t : State} {r : Res Unit} {P : State → Prop} (hx : exec i s = finish s r)
    (hr : r = .ok () t) (hp : P (charged s t)) : completes i s P := ⟨charged s t, by rw [hx, hr, finish_ok], hp⟩

theorem writeback_moves (s : State) (wb : Bool) (rn : Reg) (m : Word) : basesMoved wb rn m (writeback s wb rn m) := by
  rintro rfl
  exact reg_setReg_same s rn m

/-- A register other than a base that is written back keeps its value. -/
theorem reg_writeback_ne (s : State) {wb : Bool} {rn i : Reg} (h : wb = true → rn ≠ i) (m : Word) :
    reg (writeback s wb rn m) i = reg s i := by
  cases wb with
  | false => rfl
  | true => exact reg_setReg_ne s m (h rfl).symm

section Transfers
variable {i : Instr} {s : State} {rn rd : Reg} {x : Addr} {f : Word × Nat}

/-- What a load leaves when it ends: its register, and the base where it is written back. -/
theorem Frame.loaded {s t u : State} {bits keys : List Nat} {wb : Bool} (h : Frame (rd :: baseList wb rn) bits keys s t)
    (v m : Word) : Frame (rd :: baseList wb rn) bits keys s
      (Machine.charged u (Machine.writeback (Machine.setReg t rd v) wb rn m)) :=
  ((h.setReg v List.mem_cons_self).writeback (fun e => List.mem_cons_of_mem _ (mem_baseList e)) m).charged u

theorem reg_loaded (t u : State) {wb : Bool} (h : wb = true → rn ≠ rd) (v m : Word) :
    reg (charged u (writeback (setReg t rd v) wb rn m)) rd = v := by
  rw [reg_charged, reg_writeback_ne _ h, reg_setReg_same]

/-- A load from flat memory to a register other than the program counter (R650). -/
theorem loadOf_completes {k : LoadKind} (hx : exec i s = finish s (loadOf k (begun s) rn rd x)) (hd : rd ≠ 15#4)
    (ho : oddHalf (loadWidth k) x.address = false) (hb : x.wb = true → rn ≠ rd)
    (hf : flatAccess s f (accessAddr (loadWidth k) x.address) (loadWidth k) false) :
    completes i s fun t => Frame (rd :: baseList x.wb rn) [] [] s t ∧ reg t rd = loadedValue s f x.address k ∧
      basesMoved x.wb rn x.moved t :=
  completes_finish hx (loadOf_ok hd ho (load_flat (s := begun s) hf.2 hf.1))
    ⟨((Frame.begun s).recordAccess _ _).loaded _ _, (reg_loaded _ s hb _ _).trans (loadResult_flat s f x.address k),
      writeback_moves _ x.wb rn x.moved⟩

/-- A store to flat memory (R650). -/
theorem storeOf_completes {n : Width} (hx : exec i s = finish s (storeOf n (begun s) rn rd x))
    (ho : oddHalf n x.address = false) (hm : memoryCanonical s)
    (hf : flatAccess s f (accessAddr n x.address) n true) (hd : distinctBytes f (accessAddr n x.address) n.bytes) :
    completes i s fun t => Frame (baseList x.wb rn) [] (accessKeys f (accessAddr n x.address) n.bytes) s t ∧
      storedAt t f (accessAddr n x.address) n (storeSource s rd n) ∧ basesMoved x.wb rn x.moved t := by
  have hsrc : storeSource (begun s) rd n = storeSource s rd n := by cases n <;> rfl
  refine completes_finish hx (storeOf_ok ho (store_flat (s := begun s) _ hf.2 hf.1)) ⟨Frame.charged ?_ s, ?_, ?_⟩
  · exact (((Frame.begun s).recordAccess _ _).setMem fun k hk => read_flatWrite_of_notMem _ _ _ _ _ hk).writeback
      mem_baseList _
  · refine storedAt_flatWrite hm hd ?_
    rw [charged_mem, writeback_mem, hsrc]
    rfl
  · exact writeback_moves _ x.wb rn x.moved

end Transfers

/-! ### Addressing mode 3 (R665-R671) -/

section Mode3
variable {s : State} {cond : BitVec 4} {p u w : Bool} {rn rd : Reg} {off : Offset3} {f : Word × Nat}

theorem mode3Legal_base (h : mode3Legal p w rn rd off = true) (hw : (mode3Addr s p u w rn off).wb = true) :
    rn ≠ rd := by
  rw [mode3Addr_wb] at hw
  simp only [mode3Legal, hw, Bool.and_eq_true, Bool.not_true, Bool.false_or, bne_iff_ne] at h
  obtain ⟨⟨-, -, hne⟩, -⟩ := h
  exact hne

/-- LDRH, LDRSB and LDRSH are the loads of their kind (R666-R668). -/
theorem body3_load {op : Op3} {k : LoadKind}
    (h : (op, k) ∈ [(Op3.ldrh, LoadKind.half), (.ldrsb, .signedByte), (.ldrsh, .signedHalf)]) :
    op ≠ .ldrd ∧ op ≠ .strd ∧ (∀ off, body3 op off = loadOf k) ∧ ∀ a, accessAddr (loadWidth k) a = a := by
  simp only [List.mem_cons, Prod.mk.injEq, List.not_mem_nil, or_false] at h
  rcases h with ⟨rfl, rfl⟩ | ⟨rfl, rfl⟩ | ⟨rfl, rfl⟩ <;>
    exact ⟨nofun, nofun, fun _ => rfl, fun _ => rfl⟩

end Mode3

/-- Settles O31: each instruction is the load or the store of its kind, which an odd halfword address stops. -/
theorem halfAndSignedTransfers : Obligations.HalfAndSignedTransfers := by
  intro s cond p u w rn rd off f hc hl hd
  refine ⟨fun op k hk => ?_, ?_⟩
  · obtain ⟨h1, h2, hbody, haddr⟩ := body3_load hk
    have hx := exec_mode3_legal (u := u) hc hl (checked3_half hd h1 h2)
    rw [hbody] at hx
    split
    next ho => rw [hx, loadOf_eq, ho]; rfl
    next ho =>
      intro hf
      rw [← haddr (mode3Addr s p u w rn off).address] at hf
      exact loadOf_completes hx hd (Bool.eq_false_iff.2 ho) (mode3Legal_base hl) hf
  · have hx := exec_mode3_legal (u := u) hc hl (checked3_half (op := .strh) hd nofun nofun)
    rw [body3] at hx
    split
    next ho => rw [hx, storeOf_eq, oddHalf, ho]; rfl
    next ho => exact fun hm hf hb => storeOf_completes (n := .half) hx (Bool.eq_false_iff.2 ho) hm hf hb

/-! ### Doublewords (R670, R671) -/

/-- The loads of LDRD are those of a list of two registers (R670, R680). -/
theorem doubleLoads_eq (s : State) (rn rd : Reg) (x : Addr) : doubleLoads s rn rd x =
    (loadEach setReg [rd.toNat, (rd + 1#4).toNat] x.address s).bind fun _ t => done (writeback t x.wb rn x.moved) := by
  simp only [loadEach, Res.bind_assoc, BitVec.ofNat_toNat, BitVec.setWidth_eq]
  rfl

/-- The stores of STRD are those of a list of two registers (R671, R680). -/
theorem doubleStores_eq (s : State) (rn rd : Reg) (x : Addr) : doubleStores s rn rd x =
    (storeEach reg [rd.toNat, (rd + 1#4).toNat] x.address s).bind fun _ t => done (writeback t x.wb rn x.moved) := by
  simp only [storeEach, Res.bind_assoc, BitVec.ofNat_toNat, BitVec.setWidth_eq]
  rfl

section Doubles
variable {s : State} {cond : BitVec 4} {p u w : Bool} {rn rd : Reg} {off : Offset3} {f : Word × Nat} {x : Addr}

/-- LDRD from flat memory (R670). -/
theorem ldrd_completes (hc : passes s cond) (hl : mode3Legal p w rn rd off = true)
    (hp : pairLegal true p w rn rd off = true) (ha : mode3Addr s p u w rn off = x)
    (h8 : x.address.extractLsb' 0 3 = 0#3) (hr : wordsReadable s x.address 2) :
    completes (mode3Instr .ldrd cond p u w rn rd off) s fun t =>
      Frame (rd :: (rd + 1#4) :: baseList x.wb rn) [] [] s t ∧ reg t rd = wordFrom s x.address ∧
      reg t (rd + 1#4) = wordFrom s (x.address + 4#32) ∧ basesMoved x.wb rn x.moved t := by
  have hbase : (x.wb && (rn == rd || rn == rd + 1#4)) = false := by
    rw [← ha, mode3Addr_wb]
    exact (pairLegal_load hp).1
  have hn : x.wb = true → rn ≠ rd ∧ rn ≠ rd + 1#4 := fun e => by simpa [e] using hbase
  have hne : rd.toNat ≠ (rd + 1#4).toNat := by bv_omega
  obtain ⟨t, ht, hfr, hv⟩ := loadEach_flat (s := begun s) (l := [rd.toNat, (rd + 1#4).toNat])
    (fun j => wordFrom s (x.address + BitVec.ofNat 32 (4 * j)))
    (List.nodup_cons.2 ⟨by simpa only [List.mem_singleton] using hne, List.nodup_singleton _⟩)
    (List.forall_mem_cons.2 ⟨rd.isLt, List.forall_mem_singleton.2 (BitVec.isLt _)⟩)
    fun j hj => by
      obtain ⟨f, hf⟩ := hr j hj
      exact ⟨f, hf, wordFrom_eq hf.1⟩
  have hv0 := hv 0 _ rfl
  have hv1 := hv 1 _ rfl
  simp only [List.map_cons, List.map_nil, BitVec.ofNat_toNat, BitVec.setWidth_eq, Nat.mul_zero, BitVec.add_zero,
    Nat.mul_one] at hfr hv0 hv1
  have hx := exec_ldrd (u := u) hc hl hp
  rw [ha, doubleAligned_of h8, doubleLoads_eq, ht] at hx
  refine completes_finish hx rfl ⟨Frame.charged ?_ s, ?_, ?_, writeback_moves _ x.wb rn x.moved⟩
  · refine (((Frame.begun s).trans hfr).mono ?_ (fun _ h => h) fun _ h => h).writeback (fun e => ?_) _
    · simp
    · simp [mem_baseList e]
  · rw [reg_charged, reg_writeback_ne _ fun e => (hn e).1, hv0]
  · rw [reg_charged, reg_writeback_ne _ fun e => (hn e).2, hv1]

/-- STRD to flat memory (R671). -/
theorem strd_completes (hc : passes s cond) (hl : mode3Legal p w rn rd off = true)
    (hp : pairLegal false p w rn rd off = true) (ha : mode3Addr s p u w rn off = x)
    (h8 : x.address.extractLsb' 0 3 = 0#3) (hm : memoryCanonical s) (hw : wordsWritable s f x.address 2) :
    completes (mode3Instr .strd cond p u w rn rd off) s fun t =>
      Frame (baseList x.wb rn) [] (wordsKeys f x.address 2) s t ∧ word4At t f x.address = reg s rd ∧
      word4At t f (x.address + 4#32) = reg s (rd + 1#4) ∧ basesMoved x.wb rn x.moved t := by
  obtain ⟨t, ht, -, hfr, hb⟩ := storeEach_flat (s := begun s) (get := reg) (l := [rd.toNat, (rd + 1#4).toNat])
    (fun _ _ _ _ => rfl) hm hw.1 hw.2
  have hb0 := hb 0 _ rfl
  have hb1 := hb 1 _ rfl
  simp only [BitVec.ofNat_toNat, BitVec.setWidth_eq, Nat.mul_zero, BitVec.add_zero, Nat.mul_one] at hb0 hb1
  have hx := exec_strd (u := u) hc hl hp
  rw [ha, doubleAligned_of h8, doubleStores_eq, ht] at hx
  refine completes_finish hx rfl ⟨Frame.charged ?_ s, ?_, ?_, writeback_moves _ x.wb rn x.moved⟩
  · exact (((Frame.begun s).trans hfr).mono (List.nil_subset _) (fun _ h => h) fun _ h => h).writeback mem_baseList _
  · refine word4At_of_bytes fun k hk => ?_
    rw [charged_mem, writeback_mem]
    exact hb0 k hk
  · refine word4At_of_bytes fun k hk => ?_
    rw [charged_mem, writeback_mem]
    exact hb1 k hk

end Doubles

/-- Settles O32: a doubleword is a list of two registers at an address that is a multiple of 8. -/
theorem doubleTransfers : Obligations.DoubleTransfers := by
  intro s cond p u w rn rd off f hc hl
  refine ⟨fun hp => ?_, fun hp => ?_⟩
  · split
    next h8 => exact fun hr => ldrd_completes hc hl hp rfl h8 hr
    next h8 => rw [exec_ldrd hc hl hp, doubleAligned_fault h8]; rfl
  · split
    next h8 => exact fun hm hw => strd_completes hc hl hp rfl h8 hm hw
    next h8 => rw [exec_strd hc hl hp, doubleAligned_fault h8]; rfl

end Sys2Proof.Machine
end

section
/-! PROOFS. Accesses of one register at unmapped addresses and at peripherals (spec/20_memory.md R203, R205, R206):
O30. -/

namespace Sys2Proof.Machine

open Sys2Proof Sys2Proof.Claims

/-! ### The bus outside flat memory (R203-R206) -/

/-- The state a peripheral's operation leaves: its answer taken, the operation recorded, its calls run (R1250). -/
def afterAnswer (s : State) (x : Answer) (rest : List Answer) (act : Activity) : State :=
  runCalls { s with inputs := { s.inputs with answers := rest }, activity := s.activity ++ [act] } x.calls

section Bus
variable {s : State} {a : Word} {x : Answer} {rest : List Answer}

theorem intcReadAt_none (h : ∀ r ∈ s.params.intcMap, r.address ≠ a) : intcReadAt s a = none :=
  List.findSome?_eq_none_iff.2 fun r hr => if_neg (h r hr)

theorem intcWriteAt_none (h : ∀ r ∈ s.params.intcMap, r.address ≠ a) (v : Word) : intcWriteAt s a v = none :=
  List.findSome?_eq_none_iff.2 fun r hr => if_neg (h r hr)

theorem busRead_unmapped (n : Nat) (hf : flatRegion s.params a = none) (hi : ∀ r ∈ s.params.intcMap, r.address ≠ a)
    (hd : isDevice s.params a = false) : busRead s a n = (0#32, s) := by
  simp [busRead, hf, intcReadAt_none hi, hd]

theorem busWrite_unmapped (n : Nat) (v : Word) (hf : flatRegion s.params a = none)
    (hi : ∀ r ∈ s.params.intcMap, r.address ≠ a) (hd : isDevice s.params a = false) : busWrite s a n v = s := by
  simp [busWrite, hf, intcWriteAt_none hi, hd]

/-- A read of a peripheral is one operation, and gives its answer cut to the width (R205). -/
theorem busRead_device (n : Nat) (hf : flatRegion s.params a = none) (hi : ∀ r ∈ s.params.intcMap, r.address ≠ a)
    (hd : isDevice s.params a = true) (ha : s.inputs.answers = x :: rest) :
    busRead s a n =
      (lowBytes x.value n, afterAnswer s x rest (.deviceRead a n (lowBytes x.value n) x.calls)) := by
  simp only [busRead, hf, intcReadAt_none hi, hd, if_true, deviceReadOp, takeAnswer, ha]
  rfl

/-- A write to a peripheral is one operation, and hands over the low bytes (R206). -/
theorem busWrite_device (n : Nat) (v : Word) (hf : flatRegion s.params a = none)
    (hi : ∀ r ∈ s.params.intcMap, r.address ≠ a) (hd : isDevice s.params a = true)
    (ha : s.inputs.answers = x :: rest) :
    busWrite s a n v = afterAnswer s x rest (.deviceWrite a n (lowBytes v n) x.calls) := by
  simp only [busWrite, hf, intcWriteAt_none hi, hd, if_true, deviceWriteOp, takeAnswer, ha]
  rfl

end Bus

/-- What a peripheral does in an instruction that has made no access is what it does with the costs recorded. -/
theorem afterAnswer_frame {regs : List Reg} (s : State) (x : Answer) (rest : List Answer) (act : Activity) (a : Word)
    (n : Width) :
    Frame regs [] [] (afterAnswer s x rest act) (afterAnswer (recordAccess (begun s) a n) x rest act) := by
  have h := runCalls_costs
    { s with inputs := { s.inputs with answers := rest }, activity := s.activity ++ [act] } x.calls
    (recordAccess (begun s) a n).dataCosts (recordAccess (begun s) a n).dataCycles
  rw [show afterAnswer (recordAccess (begun s) a n) x rest act = _ from h]
  exact (Frame.refl _).costs _ _ _

/-- A frame from the state a peripheral's operation left says what the operation changed. -/
theorem answered_of_frame {s t : State} {x : Answer} {rest : List Answer} {act : Activity} {regs : List Reg}
    (h : Frame regs [] [] (afterAnswer s x rest act) t) : Answered x rest act regs s t := by
  have k : CallsKeep s (afterAnswer s x rest act) :=
    CallsKeep.trans (by constructor <;> rfl)
      (runCalls_keeps { s with inputs := { s.inputs with answers := rest }, activity := s.activity ++ [act] } x.calls)
  obtain ⟨hr, hst, hb, ⟨b1, b2, b3, b4, b5⟩, hs, hsys, hc, hd, hl⟩ := h
  refine
    { regs := fun i hi => (hr i hi).trans (reg_congr k.regs i), status := fun i hi => (hst i hi).trans (by rw [k.cpsr]),
      bytes := fun i hi => (hb i hi).trans (by rw [k.mem]),
      banks := ⟨b1.trans k.bankFiq, b2.trans k.bankSvc, b3.trans k.bankAbt, b4.trans k.bankIrq, b5.trans k.bankUnd⟩,
      spsr := fun b hb => (hs b hb).trans ?_, system := .trans ?_ hsys, cache := .trans ⟨k.ic, k.icRng⟩ hc,
      slots := ⟨hl.1.trans k.slot0, hl.2.trans k.slot1⟩, devices := hd }
  · obtain ⟨⟩ := k
    cases b <;> assumption
  · exact ⟨k.ctrl, k.exceptionBase, k.now, k.frameCount, k.lagFrame, k.faulted, k.params, k.curInstr⟩

/-! ### What a load and a store make of the bits (R652-R669) -/

theorem lowBytes_eq_lowPart (v : Word) (n : Nat) : lowBytes v n = lowPart v n := by
  apply BitVec.eq_of_toNat_eq
  simp [lowBytes, lowPart]

theorem lowPart_four (v : Word) : lowPart v 4 = v := by
  apply BitVec.eq_of_toNat_eq
  simp [lowPart, v.isLt]

theorem setWidth_lowBytes {m : Nat} (v : Word) (n : Nat) (h : m ≤ 8 * n) (h32 : 8 * n ≤ 32) :
    (lowBytes v n).setWidth m = v.setWidth m := by
  rw [lowBytes, BitVec.setWidth_setWidth_of_le _ (by omega), BitVec.setWidth_setWidth_of_le _ h]

theorem loadResult_lowBytes (a v : Word) (k : LoadKind) :
    loadResult a (lowBytes v (loadWidth k).bytes) k = extended k a v := by
  cases k with
  | word =>
    have hv : lowBytes v 4 = v := (lowBytes_eq_lowPart v 4).trans (lowPart_four v)
    exact (congrArg (ror · _) hv).trans (ror_misaligned a v)
  | byte => exact lowBytes_eq_lowPart v 1
  | half => exact lowBytes_eq_lowPart v 2
  | signedByte => exact congrArg (BitVec.signExtend 32) (setWidth_lowBytes (m := 8) v 1 (by omega) (by omega))
  | signedHalf => exact congrArg (BitVec.signExtend 32) (setWidth_lowBytes (m := 16) v 2 (by omega) (by omega))

theorem loadResult_zero (a : Word) (k : LoadKind) : loadResult a 0#32 k = 0#32 := by
  cases k with
  | word =>
    apply BitVec.eq_of_getLsbD_eq
    intro i hi
    simp [loadResult, ror, BitVec.getLsbD_rotateRight]
  | byte | half | signedByte | signedHalf => rfl

theorem storeSource_reg (s : State) {rd : Reg} (h : rd ≠ 15#4) (n : Width) : storeSource s rd n = reg s rd := by
  cases n with
  | word => exact if_neg h
  | half | byte => rfl

/-! ### Single transfers -/

theorem singleLegal_base {s : State} {y : Single} {rn rd : Reg} (h : singleLegal y rn rd = true)
    (hw : (singleAddr s y rn).wb = true) : rn ≠ rd := by
  cases y with
  | mode2 op x u off =>
    rw [singleLegal, Bool.and_eq_true] at h
    have hw2 : mode2Writes x = true := (indexed_mode2_wb x u _ _).symm.trans hw
    obtain ⟨hl, -⟩ := h
    simp only [mode2Legal, hw2, Bool.and_eq_true, Bool.not_true, Bool.false_or, bne_iff_ne] at hl
    obtain ⟨⟨-, hne⟩, -⟩ := hl
    exact hne
  | mode3 op p u w off =>
    simp only [singleLegal, Bool.and_eq_true] at h
    obtain ⟨⟨⟨hl, -⟩, -⟩, -⟩ := h
    exact mode3Legal_base hl hw

section Single
variable {s t : State} {y : Single} {cond : BitVec 4} {rn rd : Reg}

/-- A single load runs its access, writes its register and its base. -/
theorem singleLoad_ends {k : LoadKind} {v : Word} (hc : passes s cond) (hl : singleLegal y rn rd = true)
    (hd : rd ≠ 15#4) (hk : singleLoad y = some k) (ho : oddHalf (loadWidth k) (singleAddr s y rn).address = false)
    (h : load (begun s) (accessAddr (loadWidth k) (singleAddr s y rn).address) (loadWidth k) = .ok v t) :
    exec (singleInstr y cond rn rd) s = finish s (.ok ()
      (writeback (setReg t rd (loadResult (singleAddr s y rn).address v k)) (singleAddr s y rn).wb rn
        (singleAddr s y rn).moved)) := by
  rw [exec_single hc hl, singleBody, hk]
  exact congrArg _ (loadOf_ok hd ho h)

/-- A single store runs its access and writes its base. -/
theorem singleStore_ends (hc : passes s cond) (hl : singleLegal y rn rd = true) (hd : rd ≠ 15#4)
    (hk : singleLoad y = none) (ho : oddHalf (singleWidth y) (singleAddr s y rn).address = false)
    (h : store (begun s) (accessAddr (singleWidth y) (singleAddr s y rn).address) (singleWidth y) (reg s rd) =
      .ok () t) :
    exec (singleInstr y cond rn rd) s =
      finish s (.ok () (writeback t (singleAddr s y rn).wb rn (singleAddr s y rn).moved)) := by
  rw [exec_single hc hl, singleBody, hk]
  refine congrArg _ (storeOf_ok ho ?_)
  rw [storeSource_reg _ hd]
  exact h

end Single

/-- Settles O30: the access is a read of 0, a write of nothing, or one operation of a peripheral. -/
theorem otherAccesses : Obligations.OtherAccesses := by
  intro s y cond rn rd hc hl hd
  dsimp only
  intro ho hf hi hb
  have hbase := singleLegal_base (s := s) hl
  cases hk : singleLoad y with
  | some k =>
    have hst : singleStores y = false := by rw [singleStores, hk]; rfl
    have hregs : ∀ wb, singleRegs y wb rn rd = rd :: baseList wb rn := fun wb => by rw [singleRegs, hst]; rfl
    rw [hst] at hb
    rw [← loadWidth_single hk] at ho hf hi hb ⊢
    refine ⟨fun hdev => ?_, fun x rest hdev hans => ?_⟩
    · have hload := load_ok (s := begun s) hb
      rw [busRead_unmapped (s := recordAccess (begun s) _ _) _ hf hi hdev] at hload
      refine completes_finish (singleLoad_ends hc hl hd hk ho hload) rfl ⟨?_, fun _ => ?_, writeback_moves _ _ rn _⟩
      · rw [hregs]
        exact ((Frame.begun s).recordAccess _ _).loaded _ _
      · rw [reg_loaded _ s hbase, loadResult_zero]
    · have hload := load_ok (s := begun s) hb
      rw [busRead_device (s := recordAccess (begun s) _ _) _ hf hi hdev hans] at hload
      refine completes_finish (singleLoad_ends hc hl hd hk ho hload) rfl
        ⟨fun k' hk' => ?_, nofun, writeback_moves _ _ rn _⟩
      obtain rfl : k = k' := Option.some.inj hk'
      rw [hregs, ← lowBytes_eq_lowPart]
      exact ⟨(reg_loaded _ s hbase _ _).trans (loadResult_lowBytes _ _ k),
        answered_of_frame ((afterAnswer_frame s x rest _ _ _).loaded _ _)⟩
  | none =>
    have hst : singleStores y = true := by rw [singleStores, hk]; rfl
    have hregs : ∀ wb, singleRegs y wb rn rd = baseList wb rn := fun wb => by rw [singleRegs, hst]; rfl
    rw [hst] at hb
    refine ⟨fun hdev => ?_, fun x rest hdev hans => ?_⟩
    · have hstore := store_ok (s := begun s) (reg s rd) hb
      rw [busWrite_unmapped (s := recordAccess (begun s) _ _) _ _ hf hi hdev] at hstore
      refine completes_finish (singleStore_ends hc hl hd hk ho hstore) rfl
        ⟨?_, fun e => (by rw [hst] at e; cases e), writeback_moves _ _ rn _⟩
      rw [hregs]
      exact (((Frame.begun s).recordAccess _ _).writeback mem_baseList _).charged s
    · have hstore := store_ok (s := begun s) (reg s rd) hb
      rw [busWrite_device (s := recordAccess (begun s) _ _) _ _ hf hi hdev hans] at hstore
      refine completes_finish (singleStore_ends hc hl hd hk ho hstore) rfl
        ⟨nofun, fun _ => ?_, writeback_moves _ _ rn _⟩
      rw [hregs, ← lowBytes_eq_lowPart]
      exact answered_of_frame (((afterAnswer_frame s x rest _ _ _).writeback mem_baseList _).charged s)

end Sys2Proof.Machine
end

section
/-! PROOFS. Multiple transfers of which an access aborts (spec/43_arm_loadstore.md R680-R685,
spec/48_thumb_mem_branch.md R987-R990): O29. -/

namespace Sys2Proof.Machine

open Sys2Proof Sys2Proof.Claims

/-! ### Register lists (R680, R987) -/

theorem listed_pairwise {m : Nat} (l : BitVec m) : (listed l).Pairwise (· < ·) :=
  List.Pairwise.filter _ List.pairwise_lt_range

/-- An ascending list of the bits that are set is the list of registers. -/
theorem listed_eq {m : Nat} {l : BitVec m} {r : List Nat} (hr : r.Pairwise (· < ·))
    (h : ∀ i, i ∈ r ↔ l.getLsbD i = true) : listed l = r :=
  ((List.perm_ext_iff_of_nodup (listed_nodup l) (hr.imp Nat.ne_of_lt)).2 fun i =>
    mem_listed.trans (h i).symm).eq_of_pairwise (fun _ _ _ _ h g => absurd g (Nat.lt_asymm h)) (listed_pairwise l) hr

/-- R15, where it is listed. -/
def pcPart (pc : Bool) : List Nat := if pc then [15] else []

theorem mem_pcPart {pc : Bool} {i : Nat} : i ∈ pcPart pc ↔ pc = true ∧ i = 15 := by cases pc <;> simp [pcPart]

/-- A list is its registers below R15, and R15 where it is listed. -/
theorem listed_with_pc {n : Nat} (low : BitVec n) {list : BitVec 16} (hn : n ≤ 15)
    (h : ∀ i, i < 15 → list.getLsbD i = low.getLsbD i) : listed list = listed low ++ pcPart (list.getLsbD 15) := by
  have hlow : ∀ i ∈ listed low, i < 15 := fun i hi => (listed_lt hi).trans_le hn
  refine listed_eq ?_ fun i => ?_
  · refine List.pairwise_append.2 ⟨listed_pairwise low, by cases list.getLsbD 15 <;> simp [pcPart], fun i hi k hk => ?_⟩
    rw [(mem_pcPart.1 hk).2]
    exact hlow i hi
  · rw [List.mem_append, mem_listed, mem_pcPart]
    rcases Nat.lt_trichotomy i 15 with hi | rfl | hi
    · rw [h i hi]
      exact or_iff_left fun e => Nat.ne_of_lt hi e.2
    · rw [BitVec.getLsbD_of_ge low _ hn]
      simp
    · rw [BitVec.getLsbD_of_ge low i (by omega), BitVec.getLsbD_of_ge list i (by omega)]
      simp [hi.ne']

/-- The bits of a Thumb list (R987, R988). -/
theorem getLsbD_thumbList (r : Bool) {e : Nat} (list : BitVec 8) (he : e < 16) (i : Nat) :
    (thumbList r e list).getLsbD i = (list.getLsbD i || (r && decide (e = i))) := by
  have hsmall : 16 ≤ i → list.getLsbD i = false := fun h => BitVec.getLsbD_of_ge list i (by omega)
  rw [thumbList, BitVec.getLsbD_or, BitVec.getLsbD_setWidth]
  by_cases hi : i < 16
  · cases r with
    | false => simp [hi]
    | true => rw [if_pos rfl, BitVec.getLsbD_ofNat, Nat.testBit_two_pow]; simp [hi]
  · have hne : e ≠ i := by omega
    rw [BitVec.getLsbD_of_ge (if r then _ else _) i (by omega), hsmall (by omega)]
    simp [hi, hne]

theorem thumbList_push (r : Bool) (list : BitVec 8) :
    thumbList r 14 list = 0b0#1 ++ BitVec.ofBool r ++ 0#6 ++ list := by
  apply BitVec.eq_of_getLsbD_eq
  intro i hi
  rw [getLsbD_thumbList r list (by omega)]
  simp only [BitVec.getLsbD_append]
  cases r <;> interval_cases i <;> simp

theorem thumbList_pop (r : Bool) (list : BitVec 8) : thumbList r 15 list = BitVec.ofBool r ++ 0#7 ++ list := by
  apply BitVec.eq_of_getLsbD_eq
  intro i hi
  rw [getLsbD_thumbList r list (by omega)]
  simp only [BitVec.getLsbD_append]
  cases r <;> interval_cases i <;> simp

/-- The registers of a POP are those of its field, and R15 where its R bit is set (R988). -/
theorem listed_pop (r : Bool) (list : BitVec 8) :
    listed (BitVec.ofBool r ++ 0#7 ++ list) = listed list ++ pcPart r := by
  have hbit := getLsbD_thumbList r list (show 15 < 16 by omega)
  have htop : (thumbList r 15 list).getLsbD 15 = r := by rw [hbit, BitVec.getLsbD_of_ge list 15 (by omega)]; simp
  rw [← thumbList_pop, listed_with_pc list (by omega) fun i hi => by rw [hbit]; simp; omega, htop]

theorem thumbList_low (list : BitVec 8) : thumbList false 0 list = 0#8 ++ list := by
  apply BitVec.eq_of_getLsbD_eq
  intro i hi
  rw [getLsbD_thumbList false list (by omega)]
  simp only [BitVec.getLsbD_append]
  interval_cases i <;> simp

/-- A Thumb list is empty where neither its field nor its R bit lists a register (R987). -/
theorem thumbList_empty (r : Bool) {e : Nat} (list : BitVec 8) (he : e < 16) :
    (thumbList r e list == 0#16) = (!r && list == 0#8) := by
  have hbit := getLsbD_thumbList r list he
  rw [Bool.eq_iff_iff, beq_iff_eq, Bool.and_eq_true, beq_iff_eq]
  constructor
  · intro h
    rw [h] at hbit
    have hzero : ∀ i, list.getLsbD i = false ∧ (r && decide (e = i)) = false := fun i => by
      simpa using (hbit i).symm
    exact ⟨by simpa using (hzero e).2, BitVec.eq_of_getLsbD_eq fun i _ => by simpa using (hzero i).1⟩
  · rintro ⟨hr, rfl⟩
    refine BitVec.eq_of_getLsbD_eq fun i _ => ?_
    rw [hbit, show r = false by simpa using hr]
    simp

/-! ### Loads that stop (R221, R680) -/

section Loads
variable {s : State} {a : Word} {j : Nat} {l : List Nat}

/-- The address a list of transfers answers is the one after the last. -/
theorem loadEach_address {put : State → Reg → Word → State} {b : Word} {t : State}
    (h : loadEach put l a s = .ok b t) : b = a + BitVec.ofNat 32 (4 * l.length) := by
  induction l generalizing a s with
  | nil => cases h; simp
  | cons i r ih =>
    rw [loadEach] at h
    cases hl : load s a .word with
    | ok v u =>
      rw [hl] at h
      rw [ih h, add_four_step, List.length_cons]
    | trap u => rw [hl] at h; cases h
    | fault e => rw [hl] at h; cases h

/-- The loads of the registers below R15 and then of R15, where the `j`-th access aborts, in the state the `j` loads
before it left. -/
theorem loads_stop {put : State → Reg → Word → State} {pc : Bool} {m : State} {b : Word}
    (hj : j < (l ++ pcPart pc).length) (h : loadEach put (l.take j) a s = .ok b m)
    (hb : busAbort m.params b .word false = true) (k : Word → Word → State → Res Unit) (k' : State → Res Unit) :
    ((loadEach put l a s).bind fun a t => if pc then (load t a .word).bind (k a) else k' t) = raise m .dataAbort := by
  by_cases hl : j < l.length
  · rw [loadEach_abort hl h hb]
    rfl
  · have hpc : pc = true := by
      cases pc with
      | true => rfl
      | false => exact absurd (by simpa [pcPart] using hj) hl
    rw [List.take_of_length_le (by omega)] at h
    rw [h, Res.bind_ok, if_pos hpc, load_abort hb]
    rfl

/-- The first `j` loads of an ascending list from flat memory (R680). -/
theorem loadEach_first (hl : l.Nodup) (h16 : ∀ i ∈ l, i < 16) (hj : j ≤ l.length) (hr : wordsReadable s a j) :
    ∃ m, loadEach setReg (l.take j) a (begun s) = .ok (a + BitVec.ofNat 32 (4 * j)) m ∧
      Frame ((l.take j).map fun i => BitVec.ofNat 4 i) [] [] s m ∧
      ∀ n i, n < j → l[n]? = some i → reg m (BitVec.ofNat 4 i) = wordFrom s (a + BitVec.ofNat 32 (4 * n)) := by
  have hlen : (l.take j).length = j := List.length_take_of_le hj
  obtain ⟨m, hm, hf, hv⟩ := loadEach_flat (s := begun s) (l := l.take j)
    (fun n => wordFrom s (a + BitVec.ofNat 32 (4 * n))) (hl.sublist (List.take_sublist _ _))
    (fun i hi => h16 i (List.mem_of_mem_take hi)) fun n hn => by
      obtain ⟨f, hf⟩ := hr n (hlen ▸ hn)
      exact ⟨f, hf, wordFrom_eq hf.1⟩
  rw [hlen] at hm
  exact ⟨m, hm, (Frame.begun s).trans hf, fun n i hn hi => hv n i (by rw [List.getElem?_take_of_lt hn]; exact hi)⟩

end Loads

/-- A load of a list of registers from flat memory whose `j`-th access aborts (R680). -/
theorem loadRegs_aborts {s : State} {i : Instr} {a : Word} {j : Nat} {list : BitVec 16} {low : List Nat} {pc : Bool}
    (hlist : listed list = low ++ pcPart pc) (hlow : ∀ i ∈ low, i < 15) (hv : vectorsDerived s) (hj : j < popcount list)
    (hr : wordsReadable s a j) (hb : busAbort s.params (a + BitVec.ofNat 32 (4 * j)) .word false = true)
    (k : Word → Word → State → Res Unit) (k' : State → Res Unit)
    (hx : exec i s = finish s
      ((loadEach setReg low a (begun s)).bind fun a t => if pc then (load t a .word).bind (k a) else k' t)) :
    ∃ m, Frame (firstRegs list j) [] [] s m ∧ loadsFirst list j s a m ∧
      completes i s (Entered .dataAbort (returnAddress s .dataAbort) m) := by
  have hn : low.Nodup := (List.nodup_append.1 (hlist ▸ listed_nodup list)).1
  have hjl : j < (low ++ pcPart pc).length := by rw [← hlist]; exact hj
  have hle : j ≤ low.length := by
    have h1 : (pcPart pc).length ≤ 1 := by cases pc <;> simp [pcPart]
    rw [List.length_append] at hjl
    omega
  have hfirst : firstRegs list j = (low.take j).map fun i => BitVec.ofNat 4 i := by
    rw [firstRegs, listRegs, hlist, ← List.map_take, List.take_append_of_le_length hle]
  have hpc : (15#4 : Reg) ∉ firstRegs list j := by
    rw [hfirst, List.mem_map]
    rintro ⟨i, hi, e⟩
    exact ofNat_ne_pc (hlow i (List.mem_of_mem_take hi)) e
  obtain ⟨m, hm, hf, hw⟩ := loadEach_first hn (fun i hi => (hlow i hi).trans (by decide)) hle hr
  rw [← hfirst] at hf
  rw [loads_stop hjl hm (by rw [hf.system.params]; exact hb) k k'] at hx
  refine ⟨m, hf, fun n i hn hi => hw n i hn ?_, completes_abort hx hv hf hpc (.refl m)⟩
  rw [hlist, List.getElem?_append_left (by omega)] at hi
  exact hi

/-- A load of a list of user registers from flat memory whose `j`-th access aborts (R682). -/
theorem loadUserRegs_aborts {s : State} {i : Instr} {a : Word} {j : Nat} {c : BankMode} {l : List Nat}
    (hc : bankOf (curMode s) = some c) (hl : l.Nodup) (h15 : ∀ i ∈ l, i < 15) (hv : vectorsDerived s)
    (hj : j < l.length) (hr : wordsReadable s a j) (hb : busAbort s.params (a + BitVec.ofNat 32 (4 * j)) .word false = true)
    (k' : State → Res Unit)
    (hx : exec i s = finish s ((loadEach setUserReg l a (begun s)).bind fun _ t => k' t)) :
    ∃ m, UserFrame c ((l.take j).map fun i => BitVec.ofNat 4 i) s m ∧
      (∀ n i, n < j → l[n]? = some i → userReg m (BitVec.ofNat 4 i) = wordFrom s (a + BitVec.ofNat 32 (4 * n))) ∧
      completes i s (Entered .dataAbort (returnAddress s .dataAbort) m) := by
  have hlen : (l.take j).length = j := List.length_take_of_le hj.le
  obtain ⟨b, m, hm, hf, hw⟩ := loadEach_user (s := begun s) (r := l.take j)
    (fun n => wordFrom s (a + BitVec.ofNat 32 (4 * n))) hc (hl.sublist (List.take_sublist _ _))
    (fun i hi => (h15 i (List.mem_of_mem_take hi)).trans (by decide)) fun n hn => by
      obtain ⟨f, hf⟩ := hr n (hlen ▸ hn)
      exact ⟨f, hf, wordFrom_eq hf.1⟩
  have haddr := loadEach_address hm
  rw [hlen] at haddr
  have hframe : UserFrame c _ s m := (UserFrame.costs s s.cycles s.dataCycles []).trans hf
  have hpc : (15#4 : Reg) ∉ (l.take j).map fun i => BitVec.ofNat 4 i := by
    rw [List.mem_map]
    rintro ⟨i, hi, e⟩
    exact ofNat_ne_pc (h15 i (List.mem_of_mem_take hi)) e
  have hstop := loads_stop (pc := false) (by simpa [pcPart] using hj) hm
    (by rw [hframe.system.params, haddr]; exact hb) (fun _ _ => k') k'
  refine ⟨m, hframe, fun n i hn hi => hw n i (by rw [List.getElem?_take_of_lt hn]; exact hi), ?_⟩
  exact completes_entered (hx.trans (congrArg _ hstop)) hv (hframe.live _ (.inr hpc)) hframe.status hframe.system

/-! ### Stores that stop (R221, R680) -/

/-- A store of a list of registers to flat memory whose `j`-th access aborts (R684). -/
theorem storeRegs_aborts {s : State} {i : Instr} {f : Word × Nat} {a : Word} {j : Nat} {list : BitVec 16}
    {get : State → Reg → Word} (hg : ∀ s m c d, get { s with mem := m, dataCycles := c, dataCosts := d } = get s)
    (hv : vectorsDerived s) (hm : memoryCanonical s) (hj : j < popcount list) (hw : wordsWritable s f a j)
    (hb : busAbort s.params (a + BitVec.ofNat 32 (4 * j)) .word true = true) (k : Word → State → Res Unit)
    (hx : exec i s = finish s ((storeEach get (listed list) a (begun s)).bind k)) :
    ∃ m, Frame [] [] (wordsKeys f a j) s m ∧ storesFirst list j f a (get s) m ∧
      completes i s (Entered .dataAbort (returnAddress s .dataAbort) m) := by
  have hlen : ((listed list).take j).length = j := List.length_take_of_le (Nat.le_of_lt hj)
  obtain ⟨hfl, hn⟩ := hw
  obtain ⟨m, ht, -, hf, hbytes⟩ := storeEach_flat (s := begun s) (l := (listed list).take j) hg hm
    (by rw [hlen]; exact hfl) (by rw [hlen]; exact hn)
  rw [hlen] at ht hf
  have hframe := (Frame.begun s).trans hf
  rw [storeEach_abort hj ht (by rw [hframe.system.params]; exact hb), Res.bind_trap] at hx
  refine ⟨m, hframe, fun n i hn hi => ?_, completes_abort hx hv hframe List.not_mem_nil (.refl m)⟩
  rw [← hg s s.mem s.dataCycles []]
  exact word4At_of_bytes (hbytes n i (by rw [List.getElem?_take_of_lt hn]; exact hi))

/-! ### The instructions -/

section Instructions
variable {s : State} {cond : BitVec 4} {p u w r : Bool} {rn : Reg}

theorem exec_ldm1 {list : BitVec 16} (hc : passes s cond) (hu : unpredictableForm (.ldm1 cond p u w rn list) = none) :
    exec (.ldm1 cond p u w rn list) s = finish s
      ((loadEach setReg (listed (list.setWidth 15)) (multipleStart s p u rn (popcount list)) (begun s)).bind fun a t =>
        if list.getLsbD 15 then (load t a .word).bind fun v t =>
          loadWritePc (writeback t w rn (multipleEnd s p u rn (popcount list))) v
        else done (writeback t w rn (multipleEnd s p u rn (popcount list)))) := by
  obtain ⟨hl, hr, hb⟩ := listCases_none hu
  have hx : exec (.ldm1 cond p u w rn list) s = finish s ((mode4 (begun s) p u rn list).bind _) := runIf_pass _ hc
  rw [hx, mode4_legal (begun s) p u hl hr, Res.bind_ok, hb, unpredictableIf_false]
  rfl

theorem exec_ldm2 {list : BitVec 15} {c : BankMode} (hc : passes s cond) (hb : bankOf (curMode s) = some c)
    (hm : modeLegal s) (hu : unpredictableForm (.ldm2 cond p u false rn list) = none) :
    exec (.ldm2 cond p u false rn list) s = finish s
      ((loadEach setUserReg (listed list) (multipleStart s p u rn (popcount list)) (begun s)).bind fun _ t =>
        done t) := by
  obtain ⟨hl, hr, -⟩ := listCases_none (list := fullList false list) hu
  have hmode : (isUser (begun s) || curMode (begun s) == 0x1F#5) = false := (userBankMode hm).trans (by rw [hb]; rfl)
  have hk : popcount (fullList false list) = popcount list := by rw [popcount, listed_fullList, popcount]
  have hx : exec (.ldm2 cond p u false rn list) s = finish s ((mode4 (begun s) p u rn (fullList false list)).bind _) :=
    runIf_pass _ hc
  rw [hx, mode4_legal (begun s) p u hl hr, Res.bind_ok, unpredictableIf_false, hmode, unpredictableIf_false, hk]
  rfl

theorem listed_pc (list : BitVec 15) : listed (0b1#1 ++ list) = listed list ++ pcPart true := by
  have low : ∀ i, i < 15 → (0b1#1 ++ list : BitVec 16).getLsbD i = list.getLsbD i := fun i hi => by
    rw [BitVec.getLsbD_append, if_pos hi]
  have top : (0b1#1 ++ list : BitVec 16).getLsbD 15 = true := by
    rw [BitVec.getLsbD_append]
    rfl
  rw [listed_with_pc list le_rfl low, top]

theorem exec_ldm3 {list : BitVec 15} (hc : passes s cond) (hu : unpredictableForm (.ldm3 cond p u w rn list) = none) :
    exec (.ldm3 cond p u w rn list) s = finish s
      ((loadEach setReg (listed list) (multipleStart s p u rn (popcount list + 1)) (begun s)).bind fun a t =>
        (load t a .word).bind fun v t =>
          exceptionReturn (writeback t w rn (multipleEnd s p u rn (popcount list + 1))) v) := by
  obtain ⟨hl, hr, hb⟩ := listCases_none hu
  have hk : popcount (0b1#1 ++ list) = popcount list + 1 := by
    rw [popcount, listed_pc, List.length_append]
    rfl
  have hx : exec (.ldm3 cond p u w rn list) s = finish s ((mode4 (begun s) p u rn (0b1#1 ++ list)).bind _) :=
    runIf_pass _ hc
  rw [hx, mode4_legal (begun s) p u hl hr, Res.bind_ok,
    show fullList true list = 0b1#1 ++ list from rfl, hb, unpredictableIf_false, hk]
  rfl

theorem exec_stm1 {list : BitVec 16} (hc : passes s cond) (hu : unpredictableForm (.stm1 cond p u w rn list) = none) :
    exec (.stm1 cond p u w rn list) s = finish s
      ((storeEach storedReg (listed list) (multipleStart s p u rn (popcount list)) (begun s)).bind fun _ t =>
        done (writeback t w rn (multipleEnd s p u rn (popcount list)))) := by
  obtain ⟨hl, hr, hb⟩ := listCases_none hu
  have hx : exec (.stm1 cond p u w rn list) s = finish s ((mode4 (begun s) p u rn list).bind _) := runIf_pass _ hc
  rw [hx, mode4_legal (begun s) p u hl hr, Res.bind_ok, hb, unpredictableIf_false]
  rfl

theorem exec_stm2 {list : BitVec 16} (hc : passes s cond) (hb : (bankOf (curMode s)).isSome = true)
    (hm : modeLegal s) (hu : unpredictableForm (.stm2 cond p u false rn list) = none) :
    exec (.stm2 cond p u false rn list) s = finish s
      ((storeEach storedUserReg (listed list) (multipleStart s p u rn (popcount list)) (begun s)).bind fun _ t =>
        done t) := by
  obtain ⟨hl, hr, -⟩ := listCases_none hu
  have hmode : (isUser (begun s) || curMode (begun s) == 0x1F#5) = false :=
    (userBankMode hm).trans (by rw [Option.isNone_eq_false_iff]; exact hb)
  have hx : exec (.stm2 cond p u false rn list) s = finish s ((mode4 (begun s) p u rn list).bind _) := runIf_pass _ hc
  rw [hx, mode4_legal (begun s) p u hl hr, Res.bind_ok, unpredictableIf_false, hmode, unpredictableIf_false]
  rfl

/-- The one UNPREDICTABLE case of PUSH, POP and LDMIA is the empty list (R987, R988, R990). -/
theorem emptyCase_none {b : Bool} {e : Fault} {l : List (Bool × Fault)} (h : firstOf ((b, e) :: l) = none) :
    b = false :=
  firstOf_eq_none.1 h _ List.mem_cons_self

theorem exec_tPush {list : BitVec 8} {l : BitVec 16} (hl : 0b0#1 ++ BitVec.ofBool r ++ 0#6 ++ list = l)
    (hu : unpredictableForm (.tPush r list) = none) :
    exec (.tPush r list) s = finish s
      ((storeEach reg (listed l) (alignWord (reg s 13#4 - BitVec.ofNat 32 (4 * popcount l))) (begun s)).bind fun _ t =>
        done (setReg t 13#4 (reg s 13#4 - BitVec.ofNat 32 (4 * popcount l)))) := by
  have he : (thumbList r 14 list == 0#16) = false := by rw [thumbList_empty r list (by omega)]; exact emptyCase_none hu
  have hx : exec (.tPush r list) s = finish s (unpredictableIf (thumbList r 14 list == 0#16) .emptyList _) := rfl
  rw [hx, he, unpredictableIf_false, thumbList_push, hl]
  rfl

theorem exec_tPop {list : BitVec 8} (hu : unpredictableForm (.tPop r list) = none) :
    exec (.tPop r list) s = finish s
      ((loadEach setReg (listed list) (alignWord (reg s 13#4)) (begun s)).bind fun a t =>
        if r then (load t a .word).bind fun v t =>
          loadWritePc (setReg t 13#4 (reg s 13#4 + listBytes (thumbList r 15 list))) v
        else done (setReg t 13#4 (reg s 13#4 + listBytes (thumbList r 15 list)))) := by
  have he : (thumbList r 15 list == 0#16) = false := by rw [thumbList_empty r list (by omega)]; exact emptyCase_none hu
  have hx : exec (.tPop r list) s = finish s (unpredictableIf (thumbList r 15 list == 0#16) .emptyList _) := rfl
  rw [hx, he, unpredictableIf_false]
  rfl

theorem exec_tStmia {rn : LowReg} {list : BitVec 8} (hu : unpredictableForm (.tStmia rn list) = none) :
    exec (.tStmia rn list) s = finish s
      ((storeEach reg (listed (0#8 ++ list)) (alignWord (low s rn)) (begun s)).bind fun _ t =>
        done (setReg t (lowReg rn) (low s rn + listBytes (0#8 ++ list)))) := by
  have he : (thumbList false 0 list == 0#16) = false := by
    rw [thumbList_empty false list (by omega)]
    exact emptyCase_none hu
  have hb : (list.getLsbD rn.toNat && !isLowest list rn.toNat) = false :=
    firstOf_eq_none.1 hu (_, .storeBaseNotLowest) (List.mem_cons_of_mem _ List.mem_cons_self)
  have hx : exec (.tStmia rn list) s = finish s (unpredictableIf (thumbList false 0 list == 0#16) .emptyList
    (unpredictableIf (list.getLsbD rn.toNat && !isLowest list rn.toNat) .storeBaseNotLowest _)) := rfl
  rw [hx, he, unpredictableIf_false, hb, unpredictableIf_false, thumbList_low]
  rfl

theorem exec_tLdmia {rn : LowReg} {list : BitVec 8} (hu : unpredictableForm (.tLdmia rn list) = none) :
    exec (.tLdmia rn list) s = finish s
      ((loadEach setReg (listed (0#8 ++ list)) (alignWord (low s rn)) (begun s)).bind fun _ t =>
        done (writeback t (!list.getLsbD rn.toNat) (lowReg rn) (low s rn + listBytes (0#8 ++ list)))) := by
  have he : (thumbList false 0 list == 0#16) = false := by
    rw [thumbList_empty false list (by omega)]
    exact emptyCase_none hu
  have hx : exec (.tLdmia rn list) s = finish s (unpredictableIf (thumbList false 0 list == 0#16) .emptyList _) := rfl
  rw [hx, he, unpredictableIf_false, thumbList_low]
  rfl

end Instructions

/-- Settles O29: each instruction is its transfers in order, of which those before the abort are made. -/
theorem multipleAborts : Obligations.MultipleAborts := by
  intro s cond p u w r rn tn f j hc hv hm hmem
  have hsource : storedReg s = storedValue s := funext (storedReg_eq s)
  have huser : storedUserReg s = fun i => if i = 15#4 then storedValue s i else userReg s i := by
    funext i
    rw [storedUserReg, storedReg_eq]
  refine ⟨fun list => ⟨?_, ?_, fun hb => ?_⟩, fun list => ⟨?_, fun c hb hu => ?_⟩, fun list => ⟨?_, ?_, ?_, ?_⟩⟩
  · rintro hu ⟨hj, hr, hab⟩
    exact loadRegs_aborts (listed_with_pc (list.setWidth 15) le_rfl fun i hi => by simp [hi]) (fun i => listed_lt) hv hj
      hr hab _ _ (exec_ldm1 hc hu)
  · rintro hu ⟨hj, hw, hab⟩
    rw [← hsource]
    exact storeRegs_aborts (fun _ _ _ _ => rfl) hv hmem hj hw hab _ (exec_stm1 hc hu)
  · rintro hu ⟨hj, hw, hab⟩
    rw [← huser]
    exact storeRegs_aborts (fun _ _ _ _ => rfl) hv hmem hj hw hab _ (exec_stm2 hc hb hm hu)
  · rintro hu ⟨hj, hr, hab⟩
    exact loadRegs_aborts (listed_pc list) (fun i => listed_lt) hv hj hr hab _ done (exec_ldm3 hc hu)
  · intro l a hstops
    obtain ⟨hj, hr, hab⟩ := hstops
    have hl : listed l = listed list := listed_fullList list
    have hjl : j < (listed list).length := by rw [← hl]; exact hj
    rw [hl, firstRegs, listRegs, hl, ← List.map_take]
    exact loadUserRegs_aborts hb (listed_nodup list) (fun i => listed_lt) hv hjl hr hab _ (exec_ldm2 hc hb hm hu)
  · rintro hu ⟨hj, hw, hab⟩
    exact storeRegs_aborts (fun _ _ _ _ => rfl) hv hmem hj hw hab _ (exec_tPush rfl hu)
  · rintro hu ⟨hj, hr, hab⟩
    exact loadRegs_aborts (listed_pop r list) (fun i hi => (listed_lt hi).trans (by decide)) hv hj hr hab _ _
      (exec_tPop hu)
  · rintro hu ⟨hj, hw, hab⟩
    exact storeRegs_aborts (fun _ _ _ _ => rfl) hv hmem hj hw hab _ (exec_tStmia hu)
  · rintro hu ⟨hj, hr, hab⟩
    have hl : listed (0#8 ++ list) = listed (0#8 ++ list) ++ pcPart false := (List.append_nil _).symm
    have h15 : ∀ i ∈ listed (0#8 ++ list), i < 15 := by rw [← thumbList_low]; exact fun i => thumbList_lt
    exact loadRegs_aborts hl h15 hv hj hr hab (fun _ _ => done) _ (exec_tLdmia hu)

end Sys2Proof.Machine
end

section
/-! PROOFS. Reading a word field by field (spec/00_scope.md R11): fields of a concatenation and of a field, and when a
field has a given value. -/

namespace Sys2Proof

/-! ### Fields and bits -/

@[simp] theorem field_ofNat (n v lo k : Nat) :
    field (BitVec.ofNat n v) lo k = (BitVec.ofNat n v).extractLsb' lo k := rfl

@[simp] theorem flag_ofNat (n v i : Nat) : flag (BitVec.ofNat n v) i = (BitVec.ofNat n v).getLsbD i := rfl

@[simp] theorem field_zero {m : Nat} (w : BitVec m) (lo : Nat) : field w lo 0 = 0#0 := Subsingleton.elim _ _

/-- A field of a field is a field of the word. -/
theorem field_field {m lo n i k : Nat} (w : BitVec m) (h : i + k ≤ n) :
    field (field w lo n) i k = field w (lo + i) k := by
  ext j hj
  simp only [field, BitVec.getElem_extractLsb', BitVec.getLsbD_extractLsb', Nat.add_assoc]
  rw [decide_eq_true (by omega), Bool.true_and]

/-- A bit of a field is a bit of the word. -/
theorem flag_field {m lo n i : Nat} (w : BitVec m) (h : i < n) : flag (field w lo n) i = flag w (lo + i) := by
  simp [field, flag, h]

/-- A field has a value where each of its bits has. -/
theorem field_eq_iff {m k : Nat} (w : BitVec m) (lo : Nat) (c : BitVec k) :
    field w lo k = c ↔ ∀ i, i < k → flag w (lo + i) = flag c i := by
  constructor
  · rintro rfl i hi
    simp [field, flag, hi]
  · intro h
    apply BitVec.eq_of_getLsbD_eq
    intro i hi
    have hbit := h i hi
    rw [flag, flag] at hbit
    rw [field, BitVec.getLsbD_extractLsb', hbit, decide_eq_true hi, Bool.true_and]

/-- A field has a value where its lowest bit and the bits above it have: `simp` turns a field of a known value into
its bits with it. -/
theorem field_eq_ofNat_succ {m : Nat} (w : BitVec m) (lo k v : Nat) : field w lo (k + 1) = BitVec.ofNat (k + 1) v ↔
    (flag w lo = true ↔ v % 2 = 1) ∧ field w (lo + 1) k = BitVec.ofNat k (v / 2) := by
  have hbit : ∀ n i, i < n → ∀ u, flag (BitVec.ofNat n u) i = u.testBit i := fun n i hi u => by
    rw [flag, BitVec.getLsbD_ofNat, decide_eq_true hi, Bool.true_and]
  rw [field_eq_iff, field_eq_iff, Nat.forall_lt_succ_left', hbit _ 0 (by omega), Nat.add_zero, Nat.testBit_zero,
    Bool.eq_iff_iff, decide_eq_true_iff]
  refine and_congr_right' (forall₂_congr fun i hi => ?_)
  rw [hbit _ _ (by omega), hbit _ _ hi, Nat.testBit_succ, Nat.add_assoc, Nat.add_comm 1]

/-! ### Spelling a word -/

/-- The bits `v` are those of `w`. A name of its own for `v = w` between bit vectors, by which `simp` splits a
concatenation of any width. -/
def Spells {m : Nat} (v w : BitVec m) : Prop := v = w

/-- A concatenation spells a word where its parts spell the word's fields. -/
@[simp ↓] theorem spells_append {m n : Nat} (a : BitVec m) (b : BitVec n) (w : BitVec (m + n)) :
    @Spells (m + n) (a ++ b) w ↔ Spells a (field w n m) ∧ Spells b (field w 0 n) := by
  constructor
  · rintro rfl
    rw [field_high a b (le_refl n), field_low a b (by omega), Nat.sub_self, field_all, field_all]
    exact ⟨rfl, rfl⟩
  · rintro ⟨rfl, rfl⟩
    simp [field, Spells]

@[simp] theorem spells_self {m : Nat} (w : BitVec m) : Spells w w := rfl

@[simp] theorem spells_flag {m : Nat} (w : BitVec m) (i : Nat) : Spells (BitVec.ofBool (flag w i)) (field w i 1) :=
  Eq.symm <| (field_eq_iff w i _).2 fun j hj => by
    obtain rfl : j = 0 := by omega
    exact (flag_ofBool _).symm

@[simp] theorem spells_ofNat {m : Nat} (w : BitVec m) (lo k v : Nat) :
    Spells (BitVec.ofNat k v) (field w lo k) ↔ field w lo k = BitVec.ofNat k v := eq_comm

end Sys2Proof
end

section
/-! PROOFS. Every word is the encoding of the instruction it decodes to (spec/30_encoding.md R303, R331): O3, one lemma
for each space of the decode procedures. -/

namespace Sys2Proof

/-- A value is one of the values of its width. -/
theorem exists_lt_eq_ofNat {k : Nat} (c : BitVec k) : ∃ n, n < 2 ^ k ∧ c = BitVec.ofNat k n :=
  ⟨c.toNat, c.isLt, by simp⟩

/-! ### ARM words (R303) -/

/-- The instruction is an ARM instruction, the decoding of some word, and `w` is its encoding. -/
structure ReadsArm (w : Word) (i : Instr) : Prop where
  word : encodeArm i = w
  wf : i.wf = true
  state : i.isThumb = false

/-- An instruction with the condition field of a word, which is not 1111. -/
theorem ReadsArm.conditional {w : Word} {i : Instr} (hc : field w 28 4 ≠ 0b1111#4)
    (hcond : i.armCond = some (field w 28 4)) (hrow : i.rowCheck = true) (hstate : i.isThumb = false)
    (hword : Spells (encodeArm i) w) : ReadsArm w i :=
  ⟨hword, by simp [Instr.wf, hcond, hrow, hc], hstate⟩

section Conditional
variable {w : Word} (hc : field w 28 4 ≠ 0b1111#4)
include hc

theorem readsArm_mulSwap (hs : field w 25 3 = 0b000#3) (h7 : flag w 7 = true) (h4 : flag w 4 = true)
    (h5 : field w 5 2 = 0b00#2) : ReadsArm w (decodeMulSwap w) := by
  unfold decodeMulSwap
  split_ifs
  all_goals
    refine .conditional hc rfl rfl rfl ?_
    unfold encodeArm
    simp_all [field_field, field_eq_ofNat_succ]

theorem readsArm_extraLoadStore (hs : field w 25 3 = 0b000#3) (h7 : flag w 7 = true) (h4 : flag w 4 = true)
    (h5 : field w 5 2 ≠ 0b00#2) : ReadsArm w (decodeExtraLoadStore w) := by
  unfold decodeExtraLoadStore
  split_ifs
  all_goals
    refine .conditional hc rfl rfl rfl ?_
    unfold encodeArm
    simp_all [field_field, field_eq_ofNat_succ]

theorem readsArm_misc (hs : field w 25 3 = 0b000#3) (h74 : (flag w 7 && flag w 4) = false)
    (hm : field w 23 2 = 0b10#2 ∧ flag w 20 = false) : ReadsArm w (decodeMisc w) := by
  obtain ⟨n, hn, hop⟩ := exists_lt_eq_ofNat (field w 4 4)
  rw [decodeMisc, hop]
  interval_cases n
  all_goals
    simp only [BitVec.reduceEq, reduceIte]
  any_goals split_ifs
  all_goals
    refine .conditional hc rfl rfl rfl ?_
    unfold encodeArm
    simp_all [field_field, field_eq_ofNat_succ]

theorem readsArm_dpRegShift (hs : field w 25 3 = 0b000#3) (h7 : flag w 7 = false) (h4 : flag w 4 = true)
    (hm : ¬(field w 23 2 = 0b10#2 ∧ flag w 20 = false)) : ReadsArm w (decodeDpRegShift w (field w 21 4)) := by
  obtain ⟨n, hn, hop⟩ := exists_lt_eq_ofNat (field w 21 4)
  rw [hop, decodeDpRegShift]
  interval_cases n
  all_goals
    simp only [BitVec.reduceEq, reduceIte]
    refine .conditional hc rfl rfl rfl ?_
    unfold encodeArm
    simp_all [field_field, field_eq_ofNat_succ]

theorem readsArm_dpImmShift (hs : field w 25 3 = 0b000#3) (h4 : flag w 4 = false)
    (hm : ¬(field w 23 2 = 0b10#2 ∧ flag w 20 = false)) : ReadsArm w (decodeDpImmShift w (field w 21 4)) := by
  obtain ⟨n, hn, hop⟩ := exists_lt_eq_ofNat (field w 21 4)
  rw [hop, decodeDpImmShift]
  interval_cases n
  all_goals
    simp only [BitVec.reduceEq, reduceIte]
    refine .conditional hc rfl rfl rfl ?_
    unfold encodeArm
    simp_all [field_field, field_eq_ofNat_succ]

theorem readsArm_dpImm (hs : field w 25 3 = 0b001#3) (hm : ¬(field w 23 2 = 0b10#2 ∧ flag w 20 = false)) :
    ReadsArm w (decodeDpImm w (field w 21 4)) := by
  obtain ⟨n, hn, hop⟩ := exists_lt_eq_ofNat (field w 21 4)
  rw [hop, decodeDpImm]
  interval_cases n
  all_goals
    simp only [BitVec.reduceEq, reduceIte]
    refine .conditional hc rfl rfl rfl ?_
    unfold encodeArm
    simp_all [field_field, field_eq_ofNat_succ]

theorem readsArm_space000 (hs : field w 25 3 = 0b000#3) : ReadsArm w (decodeSpace000 w) := by
  unfold decodeSpace000
  split_ifs with h74 h5 hm h4
  · obtain ⟨h7, h4⟩ := Bool.and_eq_true_iff.1 h74
    exact readsArm_mulSwap hc hs h7 h4 h5
  · obtain ⟨h7, h4⟩ := Bool.and_eq_true_iff.1 h74
    exact readsArm_extraLoadStore hc hs h7 h4 h5
  · exact readsArm_misc hc hs (Bool.eq_false_iff.2 h74) hm
  · exact readsArm_dpRegShift hc hs (by simpa [h4] using h74) h4 hm
  · exact readsArm_dpImmShift hc hs (Bool.eq_false_iff.2 h4) hm

theorem readsArm_space001 (hs : field w 25 3 = 0b001#3) : ReadsArm w (decodeSpace001 w) := by
  unfold decodeSpace001
  split_ifs with hm h21
  on_goal 3 => exact readsArm_dpImm hc hs hm
  all_goals
    refine .conditional hc rfl rfl rfl ?_
    unfold encodeArm
    simp_all [field_field, field_eq_ofNat_succ]

theorem readsArm_loadStoreImm (hs : field w 25 3 = 0b010#3) : ReadsArm w (decodeLoadStoreImm w) := by
  unfold decodeLoadStoreImm
  split_ifs
  all_goals
    refine .conditional hc rfl rfl rfl ?_
    unfold encodeArm
    simp_all [field_field, field_eq_ofNat_succ]

theorem readsArm_loadStoreReg (hs : field w 25 3 = 0b011#3) (h4 : flag w 4 = false) :
    ReadsArm w (decodeLoadStoreReg w) := by
  unfold decodeLoadStoreReg
  split_ifs
  all_goals
    refine .conditional hc rfl rfl rfl ?_
    unfold encodeArm
    simp_all [field_field, field_eq_ofNat_succ]

theorem readsArm_multiple (hs : field w 25 3 = 0b100#3) : ReadsArm w (decodeMultiple w) := by
  unfold decodeMultiple
  split_ifs
  all_goals
    refine .conditional hc rfl rfl rfl ?_
    unfold encodeArm
    simp_all [field_field, field_eq_ofNat_succ]

theorem readsArm_coprocLoadStore (hs : field w 25 3 = 0b110#3) : ReadsArm w (decodeCoprocLoadStore w) := by
  unfold decodeCoprocLoadStore
  cases h22 : flag w 22
  all_goals split_ifs
  all_goals
    refine .conditional hc rfl rfl rfl ?_
    unfold encodeArm
    simp_all [field_field, field_eq_ofNat_succ]

theorem readsArm_swiCoproc (hs : field w 25 3 = 0b111#3) : ReadsArm w (decodeSwiCoproc w) := by
  unfold decodeSwiCoproc
  split_ifs
  all_goals
    refine .conditional hc rfl rfl rfl ?_
    unfold encodeArm
    simp_all [field_field, field_eq_ofNat_succ]

/-- An ARM word whose condition field is not 1111 (R303). -/
theorem readsArm_conditional : ReadsArm w (decodeConditional w (field w 25 3)) := by
  obtain ⟨n, hn, hs⟩ := exists_lt_eq_ofNat (field w 25 3)
  rw [hs, decodeConditional]
  interval_cases n
  all_goals simp only [BitVec.reduceEq, reduceIte]
  · exact readsArm_space000 hc hs
  · exact readsArm_space001 hc hs
  · exact readsArm_loadStoreImm hc hs
  · split_ifs with h4
    · refine .conditional hc rfl rfl rfl ?_
      unfold encodeArm
      simp_all [field_field, field_eq_ofNat_succ]
    · exact readsArm_loadStoreReg hc hs (Bool.eq_false_iff.2 h4)
  · exact readsArm_multiple hc hs
  · split_ifs
    all_goals
      refine .conditional hc rfl rfl rfl ?_
      unfold encodeArm
      simp_all [field_field, field_eq_ofNat_succ]
  · exact readsArm_coprocLoadStore hc hs
  · exact readsArm_swiCoproc hc hs

end Conditional

/-- The rows of the cond = 1111 space that have a name, by the decoder's fields (R319). -/
theorem otherUnconditionalRow_eq (b : BitVec 28) : otherUnconditionalRow b =
    (field b 25 3 == 0b101#3 || (field b 24 4 == 0b0101#4 && field b 20 3 == 0b101#3) ||
      (field b 24 4 == 0b0111#4 && field b 20 3 == 0b101#3 && !flag b 4) || field b 25 3 == 0b110#3 ||
      field b 24 4 == 0b1110#4) := rfl

/-- An ARM word whose condition field is 1111 (R319). -/
theorem readsArm_unconditional {w : Word} (hc : field w 28 4 = 0b1111#4) : ReadsArm w (decodeUnconditional w) := by
  unfold decodeUnconditional
  split_ifs
  -- the unnamed rest: none of the named rows
  on_goal 9 =>
    refine ⟨show Spells _ w from ?_, ?_, rfl⟩
    · unfold encodeArm
      simp_all
    · show (none != some 0b1111#4 && !otherUnconditionalRow (field w 0 28)) = true
      simp_all [otherUnconditionalRow_eq, field_field, flag_field]
      tauto
  all_goals
    refine ⟨show Spells _ w from ?_, rfl, rfl⟩
    unfold encodeArm
    simp_all [field_field, field_eq_ofNat_succ]

theorem readsArm_decodeArm (w : Word) : ReadsArm w (decodeArm w) := by
  unfold decodeArm
  split
  next hc => exact readsArm_unconditional hc
  next hc => exact readsArm_conditional hc

/-! ### Thumb halfwords (R331) -/

/-- The instruction is a Thumb instruction, the decoding of some halfword, and `h` is its encoding. -/
structure ReadsThumb (h : Half) (i : Instr) : Prop where
  word : Spells (encodeThumb i) h
  wf : i.wf = true
  state : i.isThumb = true

theorem readsThumb_alu {h : Half} (hs : field h 10 6 = 0b010000#6) :
    ReadsThumb h (decodeThumbAlu h (field h 6 4)) := by
  obtain ⟨n, hn, hop⟩ := exists_lt_eq_ofNat (field h 6 4)
  rw [hop, decodeThumbAlu]
  interval_cases n
  all_goals
    simp only [BitVec.reduceEq, reduceIte]
    refine ⟨?_, rfl, rfl⟩
    unfold encodeThumb
    simp_all [field_field, field_eq_ofNat_succ]

theorem readsThumb_lsReg {h : Half} (hs : field h 12 4 = 0b0101#4) :
    ReadsThumb h (decodeThumbLsReg h (field h 9 3)) := by
  obtain ⟨n, hn, hop⟩ := exists_lt_eq_ofNat (field h 9 3)
  rw [hop, decodeThumbLsReg]
  interval_cases n
  all_goals
    simp only [BitVec.reduceEq, reduceIte]
    refine ⟨?_, rfl, rfl⟩
    unfold encodeThumb
    simp_all [field_field, field_eq_ofNat_succ]

theorem readsThumb_misc {h : Half} (hs : field h 12 4 = 0b1011#4) : ReadsThumb h (decodeThumbMisc h) := by
  unfold decodeThumbMisc
  split_ifs
  all_goals
    refine ⟨?_, rfl, rfl⟩
    unfold encodeThumb
    simp_all [field_field, field_eq_ofNat_succ]

theorem readsThumb_shiftAdd {h : Half} (hs : field h 13 3 = 0b000#3) : ReadsThumb h (decodeThumbShiftAdd h) := by
  unfold decodeThumbShiftAdd
  split_ifs
  all_goals
    refine ⟨?_, rfl, rfl⟩
    unfold encodeThumb
    simp_all [field_field, field_eq_ofNat_succ]

theorem readsThumb_space010 {h : Half} (hs : field h 13 3 = 0b010#3) : ReadsThumb h (decodeThumbSpace010 h) := by
  unfold decodeThumbSpace010
  split_ifs
  -- formats 7 and 8, then format 4
  on_goal 1 => exact readsThumb_lsReg (by simp_all [field_eq_ofNat_succ])
  on_goal 2 => exact readsThumb_alu (by simp_all [field_eq_ofNat_succ])
  all_goals
    refine ⟨?_, rfl, rfl⟩
    unfold encodeThumb
    simp_all [field_field, field_eq_ofNat_succ]

theorem readsThumb_branch {h : Half} (hs : field h 13 3 = 0b111#3) : ReadsThumb h (decodeThumbBranch h) := by
  unfold decodeThumbBranch
  split_ifs
  all_goals
    refine ⟨?_, rfl, rfl⟩
    unfold encodeThumb
    simp_all [field_field, field_eq_ofNat_succ]

theorem wf_tBCond {cond : BitVec 4} {imm : BitVec 8} :
    (Instr.tBCond cond imm).wf = true ↔ cond ≠ 0b1110#4 ∧ cond ≠ 0b1111#4 := by
  show (none != some 0b1111#4 && decide (cond.toNat < 14)) = true ↔ _
  simp [← BitVec.toNat_inj]
  omega

theorem readsThumb_space110 {h : Half} (hs : field h 13 3 = 0b110#3) : ReadsThumb h (decodeThumbSpace110 h) := by
  unfold decodeThumbSpace110
  split_ifs with h12 h11 hE hF
  -- the conditional branch: neither of the two conditions above it
  on_goal 5 =>
    refine ⟨?_, wf_tBCond.2 ⟨hE, hF⟩, rfl⟩
    unfold encodeThumb
    simp_all [field_field, field_eq_ofNat_succ]
  all_goals
    refine ⟨?_, rfl, rfl⟩
    unfold encodeThumb
    simp_all [field_field, field_eq_ofNat_succ]

theorem readsThumb_decodeThumb (h : Half) : ReadsThumb h (decodeThumb h) := by
  obtain ⟨n, hn, hs⟩ := exists_lt_eq_ofNat (field h 13 3)
  rw [decodeThumb, hs]
  interval_cases n
  all_goals simp only [BitVec.reduceEq, reduceIte]
  -- the spaces with a lemma of their own: bits 15:13 = 000, 010, 110 and 111, then bits 15:12 = 1011
  on_goal 1 => exact readsThumb_shiftAdd hs
  on_goal 2 => exact readsThumb_space010 hs
  on_goal 5 => exact readsThumb_space110 hs
  on_goal 5 => exact readsThumb_branch hs
  all_goals split_ifs
  on_goal 13 => exact readsThumb_misc (h := h) (by simp_all [field_eq_ofNat_succ])
  all_goals
    refine ⟨?_, rfl, rfl⟩
    unfold encodeThumb
    simp_all [field_field, field_eq_ofNat_succ]

/-- Settles O3: each space of the decode procedures reads its words. -/
theorem everyWordIsSomeInstruction : Obligations.EveryWordIsSomeInstruction :=
  ⟨fun w => let ⟨word, wf, state⟩ := readsArm_decodeArm w; ⟨word, wf, state⟩,
    fun h => let ⟨word, wf, state⟩ := readsThumb_decodeThumb h; ⟨word, wf, state⟩⟩

end Sys2Proof
end

section
/-! PROOFS. Every instruction is the decoding of its encoding (spec/30_encoding.md R302, R303, R331): O1 and O2. A field
of an encoding is an operand or fixed bits; a space of the decode procedures finds its way by the fixed bits. -/

namespace Sys2Proof

/-! ### The ARM round trip -/

/-- Data processing: the three operand forms of the sixteen operations (R302). -/
def Instr.isDataProcessing : Instr → Bool
  | .andImmShift .. | .eorImmShift .. | .subImmShift .. | .rsbImmShift .. | .addImmShift .. | .adcImmShift ..
  | .sbcImmShift .. | .rscImmShift .. | .tstImmShift .. | .teqImmShift .. | .cmpImmShift .. | .cmnImmShift ..
  | .orrImmShift .. | .movImmShift .. | .bicImmShift .. | .mvnImmShift .. | .andRegShift .. | .eorRegShift ..
  | .subRegShift .. | .rsbRegShift .. | .addRegShift .. | .adcRegShift .. | .sbcRegShift .. | .rscRegShift ..
  | .tstRegShift .. | .teqRegShift .. | .cmpRegShift .. | .cmnRegShift .. | .orrRegShift .. | .movRegShift ..
  | .bicRegShift .. | .mvnRegShift .. | .andImm .. | .eorImm .. | .subImm .. | .rsbImm .. | .addImm .. | .adcImm ..
  | .sbcImm .. | .rscImm .. | .tstImm .. | .teqImm .. | .cmpImm .. | .cmnImm .. | .orrImm .. | .movImm ..
  | .bicImm .. | .mvnImm .. => true
  | _ => false

theorem decodeArm_encodeArm_of_dataProcessing {i : Instr} {c : BitVec 4} (hc : c ≠ 0b1111#4)
    (hi : i.armCond = some c ∧ i.isDataProcessing = true) : decodeArm (encodeArm i) = i := by
  cases i with
  -- a register shifted by an immediate
  | andImmShift | eorImmShift | subImmShift | rsbImmShift | addImmShift | adcImmShift | sbcImmShift | rscImmShift
  | tstImmShift | teqImmShift | cmpImmShift | cmnImmShift | orrImmShift | movImmShift | bicImmShift | mvnImmShift =>
    obtain ⟨⟨⟩, -⟩ := hi
    simp (disch := decide) [-Nat.reduceAdd, encodeArm, decodeArm, decodeConditional, decodeSpace000, decodeDpImmShift,
      hc, field_high, field_low, field_all, flag_high, flag_low, flag_ofBool]
  -- a register shifted by a register
  | andRegShift | eorRegShift | subRegShift | rsbRegShift | addRegShift | adcRegShift | sbcRegShift | rscRegShift
  | tstRegShift | teqRegShift | cmpRegShift | cmnRegShift | orrRegShift | movRegShift | bicRegShift | mvnRegShift =>
    obtain ⟨⟨⟩, -⟩ := hi
    simp (disch := decide) [-Nat.reduceAdd, encodeArm, decodeArm, decodeConditional, decodeSpace000, decodeDpRegShift,
      hc, field_high, field_low, field_all, flag_high, flag_low, flag_ofBool]
  -- an immediate
  | andImm | eorImm | subImm | rsbImm | addImm | adcImm | sbcImm | rscImm | tstImm | teqImm | cmpImm | cmnImm
  | orrImm | movImm | bicImm | mvnImm =>
    obtain ⟨⟨⟩, -⟩ := hi
    simp (disch := decide) [-Nat.reduceAdd, encodeArm, decodeArm, decodeConditional, decodeSpace001, decodeDpImm, hc,
      field_high, field_low, field_all, flag_high, flag_low, flag_ofBool]
  | _ => obtain ⟨⟨⟩, ⟨⟩⟩ := hi

theorem decodeArm_encodeArm_of_conditional {i : Instr} {c : BitVec 4} (hc : c ≠ 0b1111#4)
    (hi : i.armCond = some c ∧ i.isDataProcessing = false) : decodeArm (encodeArm i) = i := by
  cases i with
  -- the rest of bits 27:25 = 001
  | msrImm | undefMsrImmSpace =>
    obtain ⟨⟨⟩, -⟩ := hi
    simp (disch := decide) [-Nat.reduceAdd, encodeArm, decodeArm, decodeConditional, decodeSpace001, hc, field_high,
      field_low, field_all, flag_high, flag_low, flag_ofBool]
  -- the miscellaneous space (R310)
  | mrs | msrReg | clz | qadd | qsub | qdadd | qdsub | bx | bxj | blxReg | bkpt =>
    obtain ⟨⟨⟩, -⟩ := hi
    simp (disch := decide) [-Nat.reduceAdd, encodeArm, decodeArm, decodeConditional, decodeSpace000, decodeMisc, hc,
      field_high, field_low, field_all, flag_high, flag_low, flag_ofBool]
  | smlaXY | smlawY | smulwY | smlalXY | smulXY | undefMisc0001 | undefMisc0010A | undefMisc0010B | undefMisc0011A
  | undefMisc0011B | undefMisc0100 | undefMisc0110 | undefMisc0111A | undefMisc0111B =>
    obtain ⟨⟨⟩, -⟩ := hi
    simp (disch := decide) [-Nat.reduceAdd, encodeArm, decodeArm, decodeConditional, decodeSpace000, decodeMisc, hc,
      field_high, field_low, field_all, flag_high, flag_low, flag_ofBool, field_eq_ofNat_succ]
  -- multiplies and swaps
  | mul | mla | umull | umlal | smull | smlal | swp | swpb =>
    obtain ⟨⟨⟩, -⟩ := hi
    simp (disch := decide) [-Nat.reduceAdd, encodeArm, decodeArm, decodeConditional, decodeSpace000, decodeMulSwap, hc,
      field_high, field_low, field_all, flag_high, flag_low, flag_ofBool]
  | undefMulSpace01 | undefSwapSpaceA | undefSwapSpaceB | undefSwapSpaceC =>
    obtain ⟨⟨⟩, -⟩ := hi
    simp (disch := decide) [-Nat.reduceAdd, encodeArm, decodeArm, decodeConditional, decodeSpace000, decodeMulSwap, hc,
      field_high, field_low, field_all, flag_high, flag_low, field_eq_ofNat_succ]
  -- loads and stores
  | strhImm | strhReg | ldrdImm | ldrdReg | strdImm | strdReg | ldrhImm | ldrhReg | ldrsbImm | ldrsbReg | ldrshImm
  | ldrshReg =>
    obtain ⟨⟨⟩, -⟩ := hi
    simp (disch := decide) [-Nat.reduceAdd, encodeArm, decodeArm, decodeConditional, decodeSpace000,
      decodeExtraLoadStore, hc, field_high, field_low, field_all, flag_high, flag_low, flag_ofBool]
  | ldrImmPre | ldrImmPost | ldrbImmPre | ldrbImmPost | strImmPre | strImmPost | strbImmPre | strbImmPost | ldrtImm
  | ldrbtImm | strtImm | strbtImm =>
    obtain ⟨⟨⟩, -⟩ := hi
    simp (disch := decide) [-Nat.reduceAdd, encodeArm, decodeArm, decodeConditional, decodeLoadStoreImm, hc,
      field_high, field_low, field_all, flag_high, flag_low, flag_ofBool]
  | ldrRegPre | ldrRegPost | ldrbRegPre | ldrbRegPost | strRegPre | strRegPost | strbRegPre | strbRegPost | ldrtReg
  | ldrbtReg | strtReg | strbtReg | undefLsRegBit4 =>
    obtain ⟨⟨⟩, -⟩ := hi
    simp (disch := decide) [-Nat.reduceAdd, encodeArm, decodeArm, decodeConditional, decodeLoadStoreReg, hc,
      field_high, field_low, field_all, flag_high, flag_low, flag_ofBool]
  | ldm1 | ldm2 | ldm3 | stm1 | stm2 =>
    obtain ⟨⟨⟩, -⟩ := hi
    simp (disch := decide) [-Nat.reduceAdd, encodeArm, decodeArm, decodeConditional, decodeMultiple, hc, field_high,
      field_low, field_all, flag_high, flag_low, flag_ofBool]
  -- branches and coprocessor instructions
  | b | bl | swi | cdp | mcr | mrc =>
    obtain ⟨⟨⟩, -⟩ := hi
    simp (disch := decide) [-Nat.reduceAdd, encodeArm, decodeArm, decodeConditional, decodeSwiCoproc, hc, field_high,
      field_low, field_all, flag_high, flag_low]
  | ldcPre | ldcPost | ldcUnindexed | stcPre | stcPost | stcUnindexed | mcrr | mrrc | undefCpLsSpace =>
    obtain ⟨⟨⟩, -⟩ := hi
    simp (disch := decide) [-Nat.reduceAdd, encodeArm, decodeArm, decodeConditional, decodeCoprocLoadStore, hc,
      field_high, field_low, field_all, flag_high, flag_low, flag_ofBool, field_eq_ofNat_succ]
  | _ => obtain ⟨⟨⟩, ⟨⟩⟩ := hi

/-- The unnamed rest of the cond = 1111 space (R319). -/
theorem decodeUnconditional_rest {w : Word} (h : otherUnconditionalRow (field w 0 28) = false) :
    decodeUnconditional w = .nvSkipped (field w 0 28) := by
  unfold decodeUnconditional
  split_ifs
  all_goals simp_all [otherUnconditionalRow_eq, field_field, flag_field]

theorem wf_nvSkipped {body : BitVec 28} : (Instr.nvSkipped body).wf = true ↔ otherUnconditionalRow body = false := by
  show (none != some 0b1111#4 && !otherUnconditionalRow body) = true ↔ _
  simp

theorem decodeArm_encodeArm_of_unconditional {i : Instr} (hw : i.wf = true)
    (hi : i.isThumb = false ∧ i.armCond = none) : decodeArm (encodeArm i) = i := by
  cases i with
  | blxImm | pldImm | pldReg | cdp2 | mcr2 | mrc2 | ldc2 | stc2 =>
    simp (disch := decide) [-Nat.reduceAdd, encodeArm, decodeArm, decodeUnconditional, field_high, field_low, field_all,
      flag_high, flag_low, flag_ofBool, field_eq_ofNat_succ]
  | nvSkipped body =>
    have hbody : field (encodeArm (.nvSkipped body)) 0 28 = body := by
      rw [encodeArm, field_low _ _ (le_refl 28), field_all]
    have hcond : field (encodeArm (.nvSkipped body)) 28 4 = 0b1111#4 := by
      rw [encodeArm, field_high _ _ (le_refl 28), field_all]
    rw [decodeArm, if_pos hcond, decodeUnconditional_rest (by rwa [hbody, ← wf_nvSkipped]), hbody]
  | _ => obtain ⟨⟨⟩, ⟨⟩⟩ := hi

theorem decodeArm_encodeArm (i : Instr) (hw : i.wf = true) (ht : i.isThumb = false) : decodeArm (encodeArm i) = i := by
  cases hcond : i.armCond with
  | none => exact decodeArm_encodeArm_of_unconditional hw ⟨ht, hcond⟩
  | some c =>
    have hc : c ≠ 0b1111#4 := by
      rintro rfl
      simp [Instr.wf, hcond] at hw
    cases hdp : i.isDataProcessing with
    | true => exact decodeArm_encodeArm_of_dataProcessing hc ⟨hcond, hdp⟩
    | false => exact decodeArm_encodeArm_of_conditional hc ⟨hcond, hdp⟩

/-- Settles O1: the unconditional instructions, data processing, and the rest. -/
theorem armRoundTrip : Obligations.ArmRoundTrip := decodeArm_encodeArm

/-! ### The Thumb round trip -/

theorem decodeThumb_encodeThumb (i : Instr) (hw : i.wf = true) (ht : i.isThumb = true) :
    decodeThumb (encodeThumb i) = i := by
  cases i with
  -- formats 1 and 2
  | tLslImm | tLsrImm | tAsrImm | tAddReg | tSubReg | tAddImm3 | tSubImm3 =>
    simp (disch := decide) [-Nat.reduceAdd, encodeThumb, decodeThumb, decodeThumbShiftAdd, field_high, field_low,
      field_all]
  -- formats 3, 9 to 11
  | tMovImm | tCmpImm | tAddImm8 | tSubImm8 | tStrImm | tLdrImm | tStrbImm | tLdrbImm | tStrhImm | tLdrhImm | tStrSp
  | tLdrSp => simp (disch := decide) [-Nat.reduceAdd, encodeThumb, decodeThumb, field_high, field_low, field_all]
  -- format 4
  | tAnd | tEor | tLslReg | tLsrReg | tAsrReg | tAdc | tSbc | tRor | tTst | tNeg | tCmpReg | tCmn | tOrr | tMul | tBic
  | tMvn =>
    simp (disch := decide) [-Nat.reduceAdd, encodeThumb, decodeThumb, decodeThumbSpace010, decodeThumbAlu, field_high,
      field_low, field_all, flag_high]
  -- formats 5 and 6
  | tAddHi | tCmpHi | tMovHi | tBx | tBlxReg | tLdrPc =>
    simp (disch := decide) [-Nat.reduceAdd, encodeThumb, decodeThumb, decodeThumbSpace010, field_high, field_low,
      field_all, flag_high, flag_low, flag_ofBool]
  -- formats 7 and 8
  | tStrReg | tStrhReg | tStrbReg | tLdrsbReg | tLdrReg | tLdrhReg | tLdrbReg | tLdrshReg =>
    simp (disch := decide) [-Nat.reduceAdd, encodeThumb, decodeThumb, decodeThumbSpace010, decodeThumbLsReg, field_high,
      field_low, field_all, flag_high]
  -- formats 12 to 14, BKPT and the undefined rest of bits 15:12 = 1011
  | tAddPc | tAddSp | tAddSpImm | tSubSpImm | tPush | tPop | tBkpt | tUndefB1 | tUndefB2B3 | tUndefB6B7 | tUndefB8Bb
  | tUndefBf =>
    simp (disch := decide) [-Nat.reduceAdd, encodeThumb, decodeThumb, decodeThumbMisc, field_high, field_low, field_all,
      flag_high, flag_low, flag_ofBool, field_eq_ofNat_succ]
  -- formats 15 to 17
  | tBCond cond imm =>
    have hc := wf_tBCond.1 hw
    simp (disch := decide) [-Nat.reduceAdd, encodeThumb, decodeThumb, decodeThumbSpace110, field_high, field_low,
      field_all, flag_high, hc]
  | tStmia | tLdmia | tSwi | tUndefCondE =>
    simp (disch := decide) [-Nat.reduceAdd, encodeThumb, decodeThumb, decodeThumbSpace110, field_high, field_low,
      field_all, flag_high]
  -- formats 18 and 19
  | tB | tBlxSuffix | tBlPrefix | tBlSuffix | tUndefBlxOdd =>
    simp (disch := decide) [-Nat.reduceAdd, encodeThumb, decodeThumb, decodeThumbBranch, field_high, field_low,
      field_all, flag_low]
  | _ => cases ht

/-- Settles O2, by the formats of R330. -/
theorem thumbRoundTrip : Obligations.ThumbRoundTrip := decodeThumb_encodeThumb

end Sys2Proof
end

section
/-! PROOFS. What is skipped, and the UNPREDICTABLE operand forms (spec/40_pipeline.md R422, R423; spec/30_encoding.md
R319, R342; spec/93_implementation_defined.md section 1): O12 and O13. -/

namespace Sys2Proof.Machine

open Sys2Proof Sys2Proof.Claims

/-! ### Conditions -/

/-- An ARM instruction with a condition field is gated by it (R422). -/
theorem exec_eq_runIf {i : Instr} {c : BitVec 4} (hi : i.armCond = some c) (s : State) :
    ∃ body, exec i s = runIf c s body := by
  cases i
  all_goals cases hi
  all_goals exact ⟨_, rfl⟩

theorem exec_neverRuns {i : Instr} (hi : neverRuns i = true) (s : State) : exec i s = .next (skipped s) := by
  cases i with
  | pldImm | pldReg | cdp2 | mcr2 | mrc2 | ldc2 | stc2 | nvSkipped => rfl
  | _ => cases hi

/-- Settles O12: the condition field gates the instruction, and the words that never run have no other meaning. -/
theorem skippedInstructions : Obligations.SkippedInstructions := by
  intro i s
  refine ⟨?_, fun hi => exec_neverRuns hi s⟩
  rintro c (hi | ⟨imm, rfl⟩) hc
  · obtain ⟨body, hx⟩ := exec_eq_runIf hi s
    exact hx.trans (runIf_fail body hc)
  · exact runIf_fail _ hc

/-! ### Checks in order -/

/-- The result answers the fault of the first case of the list that holds. -/
def Checks {α : Type} (l : List (Bool × Fault)) (r : Res α) : Prop := ∀ f, firstOf l = some f → r = .fault f

section Checks
variable {α β : Type} {l : List (Bool × Fault)}

theorem Checks.nil {r : Res α} : Checks [] r := fun _ h => nomatch h

/-- A check answers its case before the cases after it. -/
theorem Checks.cons {bad : Bool} {e : Fault} {r : Res α} (h : Checks l r) :
    Checks ((bad, e) :: l) (unpredictableIf bad e r) := by
  cases bad with
  | true => exact fun f hf => congrArg Res.fault (Option.some.inj hf)
  | false => exact fun f hf => h f hf

/-- A check whose case is stated in other words. -/
theorem Checks.cons_of_eq {bad bad' : Bool} {e : Fault} {r : Res α} (hb : bad' = bad) (h : Checks l r) :
    Checks ((bad', e) :: l) (unpredictableIf bad e r) := hb ▸ h.cons

theorem unpredictableIf_bind (bad : Bool) (e : Fault) (r : Res α) (k : α → State → Res β) :
    (unpredictableIf bad e r).bind k = unpredictableIf bad e (r.bind k) := by
  cases bad <;> rfl

theorem Checks.mode4 {s : State} {p u : Bool} {rn : Reg} {list : BitVec 16} {k : Word × Word → State → Res β}
    (h : ∀ x, Checks l (k x s)) : Checks (listCases rn list ++ l) ((mode4 s p u rn list).bind k) := by
  rw [Machine.mode4, unpredictableIf_bind, unpredictableIf_bind]
  exact .cons (.cons (h _))

end Checks

/-- A gated instruction stops with the first case of its body's checks. -/
theorem faults_of_checks {i : Instr} {s : State} {c : BitVec 4} {body : State → Res Unit} {l : List (Bool × Fault)}
    {f : Fault} (hx : exec i s = runIf c s body) (hi : i.armCond = some c) (hs : allowed i s) (hf : firstOf l = some f)
    (h : Checks l (body (begun s))) : exec i s = .fault f := faults_runIf hx (hs c hi) (h f hf)

/-- An ungated instruction stops with the first case of its body's checks. -/
theorem faults_of_checks_ungated {i : Instr} {s : State} {r : Res Unit} {l : List (Bool × Fault)} {f : Fault}
    (hx : exec i s = finish s r) (hf : firstOf l = some f) (h : Checks l r) : exec i s = .fault f := by
  rw [hx, h f hf, finish_fault]

theorem hiReg_eq_pc : ∀ (h : Bool) (r : LowReg), (hiReg h r == 15#4) = (h && r == 7#3) := by decide

/-- Settles O13: every instruction makes the checks of its rule in the order of `unpredictableForm`. -/
theorem unpredictableFormsFault : Obligations.UnpredictableFormsFault := by
  intro i s f hf hs
  cases i with
  -- status access and saturating arithmetic
  | mrs | msrReg | clz => exact faults_of_checks rfl rfl hs hf (.cons_of_eq (by simp [bne]) (.cons .nil))
  | msrImm => exact faults_of_checks rfl rfl hs hf (.cons .nil)
  | qadd | qsub | qdadd | qdsub => exact faults_of_checks rfl rfl hs hf (.cons (.cons .nil))
  -- multiplies
  | mul | umull | umlal | smull | smlal => exact faults_of_checks rfl rfl hs hf (.cons (.cons (.cons .nil)))
  | mla | smulwY | smlalXY | smulXY => exact faults_of_checks rfl rfl hs hf (.cons (.cons .nil))
  | smlaXY | smlawY => exact faults_of_checks rfl rfl hs hf (.cons .nil)
  -- swaps and multiple transfers
  | swp | swpb => exact faults_of_checks rfl rfl hs hf (.cons (.cons (.cons .nil)))
  | ldm1 | ldm2 | ldm3 | stm1 | stm2 => exact faults_of_checks rfl rfl hs hf (.mode4 fun _ => .cons .nil)
  -- branches
  | bx => exact faults_of_checks rfl rfl hs hf (.cons .nil)
  | bxj | blxReg => exact faults_of_checks rfl rfl hs hf (.cons (.cons .nil))
  | bkpt => exact faults_of_checks rfl rfl hs hf (.cons .nil)
  -- Thumb
  | tMul | tAddHi | tCmpHi | tMovHi | tBx => exact faults_of_checks_ungated rfl hf (.cons .nil)
  | tBlxReg h2 rm => exact faults_of_checks_ungated rfl hf (.cons (.cons_of_eq (hiReg_eq_pc h2 rm).symm .nil))
  | tPush r list | tPop r list =>
    exact faults_of_checks_ungated rfl hf (.cons_of_eq (thumbList_empty r list (by omega)).symm .nil)
  | tStmia rn list =>
    exact faults_of_checks_ungated rfl hf (.cons_of_eq (thumbList_empty false list (by omega)).symm (.cons .nil))
  | tLdmia rn list =>
    exact faults_of_checks_ungated rfl hf (.cons_of_eq (thumbList_empty false list (by omega)).symm .nil)
  | _ => cases hf

end Sys2Proof.Machine
end

section
/-! PROOFS. The operand forms that stop (spec/41_arm_dataproc.md R511, R513; spec/43_arm_loadstore.md R651-R671): O33. -/

namespace Sys2Proof.Machine

open Sys2Proof Sys2Proof.Claims

/-! ### Results that fault -/

/-- The result is a fault. -/
def Faults {α : Type} (r : Res α) : Prop := ∃ f, r = .fault f

section Faults
variable {α β : Type}

@[simp] theorem not_faults_ok (a : α) (s : State) : ¬ Faults (.ok a s) := nofun

@[simp] theorem faults_unpredictableIf {bad : Bool} {e : Fault} {r : Res α} :
    Faults (unpredictableIf bad e r) ↔ bad = true ∨ Faults r := by
  cases bad <;> simp [Faults]

@[simp] theorem faults_shouldBe {good : Bool} {r : Res α} : Faults (shouldBe good r) ↔ good = false ∨ Faults r := by
  cases good <;> simp [Faults]

theorem Faults.bind {r : Res α} (h : Faults r) (k : α → State → Res β) : Faults (r.bind k) := by
  obtain ⟨f, rfl⟩ := h
  exact ⟨f, rfl⟩

end Faults

/-- A gated instruction stops where its body faults. -/
theorem stops_of_faults {i : Instr} {s : State} {c : BitVec 4} {body : State → Res Unit} (hc : passes s c)
    (hx : exec i s = runIf c s body) (h : Faults (body (begun s))) : stops i s := by
  obtain ⟨f, hf⟩ := h
  exact ⟨f, faults_runIf hx hc hf⟩

/-! ### Data processing -/

section DataProcessing
variable {op : DpOp} {rn rd : Reg} (cond : BitVec 4) (sf : Bool) (s : State)

/-- A compare or a move checks its should-be-zero field first (R513). -/
theorem exec_dpInstr_shouldBe (h : dpFieldsZero op rn rd = false) (o : Operand2) : ∃ body : State → Res Unit,
    exec (dpInstr op cond sf rn rd o) s = runIf cond s fun t => shouldBe (dpFieldsZero op rn rd) (body t) := by
  cases op with
  | tst | teq | cmp | cmn | mov | mvn => cases o <;> exact ⟨_, rfl⟩
  | _ => cases h

/-- With its should-be-zero field zero, a register-shift form is the one operation of R507. -/
theorem exec_dpRegShift (h : dpFieldsZero op rn rd = true) (rs : Reg) (st : BitVec 2) (rm : Reg) : ∃ sf',
    exec (dpInstr op cond sf rn rd (.regShift rs st rm)) s = runIf cond s (dpRegShift op sf' rn rd rs st rm) := by
  cases op with
  | tst | teq | cmp | cmn =>
    obtain rfl : rd = 0#4 := by simpa [dpFieldsZero] using h
    exact ⟨true, rfl⟩
  | mov | mvn =>
    obtain rfl : rn = 0#4 := by simpa [dpFieldsZero] using h
    exact ⟨sf, rfl⟩
  | _ => exact ⟨sf, rfl⟩

/-- R15 stops a register-shift form (R511). -/
theorem dpRegShift_illegal {rs : Reg} {st : BitVec 2} {rm : Reg} (h : operandLegal rn rd (.regShift rs st rm) = false) :
    dpRegShift op sf rn rd rs st rm s = .fault .r15RegisterShift := by
  have hpc : (rd == 15#4 || rn == 15#4 || rm == 15#4 || rs == 15#4) = true := by
    simpa [operandLegal, bne, ← Bool.not_or] using h
  rw [dpRegShift, hpc, unpredictableIf_true]

end DataProcessing

/-! ### Addressing modes 2 and 3 -/

section Transfers
variable {s : State} {p u w : Bool} {rn rd : Reg}

theorem mode2Operand_illegal {x : Index2} {off : Offset2} (h : mode2Legal x rn rd off = false) :
    Faults (mode2Operand s x u rn rd off) := by
  cases off with
  | imm v =>
    simp [mode2Operand, mode2Imm, indexed_mode2, indexed_mode2_wb, mode2Legal] at h ⊢
    grind
  | reg i st rm =>
    simp [mode2Operand, mode2Reg, indexed_mode2, indexed_mode2_wb, mode2Legal] at h ⊢
    grind

theorem mode3Operand_illegal {off : Offset3} (h : mode3Legal p w rn rd off = false) :
    Faults (mode3Operand s p u w rn rd off) := by
  cases off with
  | imm hi lo =>
    simp [mode3Operand, mode3Imm, mode3, indexed_mode3_wb, mode3Legal] at h ⊢
    grind
  | reg z rm =>
    simp [mode3Operand, mode3Reg, mode3, indexed_mode3_wb, mode3Legal] at h ⊢
    grind

theorem Faults.refusingPc {r : Res Unit} (h : Faults r) (f : Option Fault) (rd : Reg) : Faults (refusingPc f rd r) := by
  cases f with
  | none => exact h
  | some e => exact faults_unpredictableIf.2 (.inr h)

/-- The instructions of addressing mode 2 that shut the program counter out (R653-R659). -/
theorem faults_refusingPc_pc {op : Op2} {x : Index2} (h : op = .ldrb ∨ op = .strb ∨ (op = .ldr ∧ x = .translated))
    (r : Res Unit) : Faults (refusingPc (pcFault2 op x) 15#4 r) := by
  rcases h with rfl | rfl | ⟨rfl, rfl⟩
  all_goals exact ⟨_, rfl⟩

theorem Faults.checked3 {r : Res Unit} (h : Faults r) (op : Op3) (rd : Reg) : Faults (checked3 op rd r) := by
  cases op with
  | ldrh | ldrsb | ldrsh | strh | ldrd | strd => exact faults_unpredictableIf.2 (.inr h)

theorem faults_checked3_pc {op : Op3} (h1 : op ≠ .ldrd) (h2 : op ≠ .strd) (r : Res Unit) :
    Faults (checked3 op 15#4 r) := by
  cases op with
  | ldrd => exact absurd rfl h1
  | strd => exact absurd rfl h2
  | ldrh | ldrsb | ldrsh | strh => exact ⟨_, rfl⟩

/-- An LDRD of an illegal pair, of a legal operand (R670). -/
theorem loadDouble_illegal {off : Offset3} (h : pairLegal true p w rn rd off = false) :
    Faults (pairChecked rd (loadDouble (offset3Reg off) s rn rd (mode3Addr s p u w rn off))) := by
  cases off with
  | imm hi lo =>
    simp [pairChecked, loadDouble, mode3Addr_wb, pairLegal, offset3Reg] at h ⊢
    grind
  | reg z rm =>
    simp [pairChecked, loadDouble, mode3Addr_wb, pairLegal, offset3Reg] at h ⊢
    grind

theorem pairChecked_illegal {off : Offset3} (h : pairLegal false p w rn rd off = false) (r : Res Unit) :
    Faults (pairChecked rd r) := by
  simp [pairChecked, pairLegal] at h ⊢
  grind

end Transfers

/-- Settles O33: a compare or a move by its first check, a register-shift form by its R15 check, and a transfer by a
check of its operand, of Rd = 15 or of its pair. -/
theorem operandFormsStop : Obligations.OperandFormsStop := by
  intro s cond rn rd hc
  refine ⟨fun op sf o => ⟨fun hz => ?_, fun hz ho => ?_⟩, fun op x u off h => ?_, fun op p u w off h => ?_⟩
  · obtain ⟨body, hx⟩ := exec_dpInstr_shouldBe cond sf s hz o
    exact faults_runIf hx hc (by rw [hz, shouldBe_false])
  · cases o with
    | regShift rs st rm =>
      obtain ⟨sf', hx⟩ := exec_dpRegShift cond sf s hz rs st rm
      exact faults_runIf hx hc (dpRegShift_illegal sf' _ ho)
    | immShift | imm => cases ho
  · refine stops_of_faults hc (exec_mode2 ..) ?_
    rcases h with hl | ⟨rfl, hop⟩
    · exact ((mode2Operand_illegal hl).bind _).refusingPc _ _
    · exact faults_refusingPc_pc hop _
  · refine stops_of_faults hc (exec_mode3 ..) ?_
    cases hl : mode3Legal p w rn rd off with
    | false => exact ((mode3Operand_illegal hl).bind _).checked3 _ _
    | true =>
      rcases h with hl' | ⟨rfl, h1, h2⟩ | ⟨rfl, hp⟩ | ⟨rfl, hp⟩
      · rw [hl] at hl'
        cases hl'
      · exact faults_checked3_pc h1 h2 _
      · rw [mode3Operand_legal _ u hl]
        exact loadDouble_illegal hp
      · exact pairChecked_illegal hp _

end Sys2Proof.Machine
end

section
/-! PROOFS. The condition table (spec/40_pipeline.md R402, R403): O11. -/

namespace Sys2Proof.Machine

open Sys2Proof Sys2Proof.Claims

/-- The flags as the number that selects a bit of the lookup table: N:Z:C:V (R402). -/
theorem flagNibble_toNat (s : State) : (s.cpsr.extractLsb' 28 4).toNat =
    8 * (flagN s).toNat + 4 * (flagZ s).toNat + 2 * (flagC s).toNat + (flagV s).toNat := by
  have sum : ∀ f : BitVec 4, f.toNat = 8 * (f.getLsbD 3).toNat + 4 * (f.getLsbD 2).toNat +
    2 * (f.getLsbD 1).toNat + (f.getLsbD 0).toNat := by decide
  have bit : ∀ i, i < 4 → (s.cpsr.extractLsb' 28 4).getLsbD i = s.cpsr.getLsbD (28 + i) := fun i hi => by
    rw [BitVec.getLsbD_extractLsb', decide_eq_true hi, Bool.true_and]
  rw [sum, bit 3 (by omega), bit 2 (by omega), bit 1 (by omega), bit 0 (by omega)]
  rfl

/-- The lookup table, entry by entry, is its "true when" column (R402). -/
theorem conditionMask_eq_condHolds : ∀ (c : BitVec 4) (n z cf v : Bool),
    (conditionMask c).getLsbD (8 * n.toNat + 4 * z.toNat + 2 * cf.toNat + v.toNat) = condHolds c n z cf v := by
  decide

/-- Settles O11: the flags select the bit of the table, whose entries are its meaning. -/
theorem conditionTable : Obligations.ConditionTable := by
  intro s c
  have hbit : ∀ c, checkCondition s c = (conditionMask c).getLsbD
      (8 * (flagN s).toNat + 4 * (flagZ s).toNat + 2 * (flagC s).toNat + (flagV s).toNat) := fun c => by
    rw [checkCondition, flagNibble_toNat]
  refine ⟨hbit c, ?_, ?_⟩
  · rw [hbit, conditionMask_eq_condHolds]
  · rw [hbit, conditionMask_eq_condHolds]
    rfl

end Sys2Proof.Machine
end

section
/-! PROOFS. Jumps and the pipeline fill in flat memory (spec/40_pipeline.md R410-R412): O9. -/

namespace Sys2Proof.Machine

open Sys2Proof Sys2Proof.Claims

section FlatFetches
variable {s : State} {a : Word} {n : Width} {f g : Word × Nat}

/-- The end of a jump in flat memory with caching off: both slots read and both fetches charged (R410). -/
theorem refill_flat (hc : cachingActive s = false) (hf : flatRegion s.params a = some f)
    (hg : flatRegion s.params (a + n.size) = some g) :
    refill s a n = { setReg s 15#4 (a + n.size) with
      slot0 := flatRead s.mem f a n.bytes
      slot1 := flatRead s.mem g (a + n.size) n.bytes
      codeCycles := Config.codeCost (a + n.size) n.bytes true
      cycles := s.cycles + Config.codeCost a n.bytes false + Config.codeCost (a + n.size) n.bytes true } := by
  unfold refill chargedFetch
  rw [fetchCode_flat (s := setReg s 15#4 (a + n.size)) n false hc hf]
  dsimp only
  rw [fetchCode_flat n true (by exact hc) (by exact hg)]
  rfl

/-- The pipeline fill in flat memory with caching off: both slots read, and nothing charged (R412). -/
theorem fillPipeline_flat (hn : instrWidth s = n) (hc : cachingActive s = false)
    (hf : flatRegion s.params (reg s 15#4 - n.size) = some f) (hg : flatRegion s.params (reg s 15#4) = some g) :
    fillPipeline s = { s with
      thumbStale := none
      slot0 := flatRead s.mem f (reg s 15#4 - n.size) n.bytes
      slot1 := flatRead s.mem g (reg s 15#4) n.bytes
      codeCycles := Config.codeCost (reg s 15#4) n.bytes true } := by
  unfold fillPipeline
  dsimp only
  rw [hn, fetchCode_flat (s := { s with thumbStale := none }) n true hc hf]
  rw [fetchCode_flat n true (by exact hc) (by exact hg)]
  rfl

end FlatFetches

/-- A jump to an even value goes to ARM state (R410). -/
theorem jumpTo_arm {s : State} {v : Word} (h : v.getLsbD 0 = false) :
    jumpTo s v = refill { s with cpsr := setBit s.cpsr 5 false, thumbStale := none } (alignWord v) .word := by
  rw [jumpTo, h, if_neg Bool.false_ne_true]

/-- A jump to an odd value goes to Thumb state (R410). -/
theorem jumpTo_thumb {s : State} {v : Word} (h : v.getLsbD 0 = true) :
    jumpTo s v = refill { s with cpsr := setBit s.cpsr 5 true, thumbStale := none } (alignHalf v) .half := by
  rw [jumpTo, h, if_pos rfl]

/-- Bit 0 of the target selects the state, and the program counter leads by one width (R410). -/
theorem jumpTo_jumpedTo (s : State) (v : Word) : jumpedTo v (jumpTo s v) :=
  ⟨by rw [flagT, jumpTo_cpsr, getLsbD_setBit]; rfl, jumpTo_pc s v⟩

/-- Settles O9: a jump and a fill in flat memory, in each state. -/
theorem jumpRefillsSlots : Obligations.JumpRefillsSlots := by
  intro s v
  refine ⟨jumpTo_jumpedTo s v, jumpTo_frame s v, fun f g hc =>
    ⟨fun hv hf hg => ?_, fun hv hf hg => ?_, fun ht hf hg => ?_, fun ht hf hg => ?_⟩⟩
  · rw [jumpTo_arm hv, refill_flat (by exact hc) (by exact hf) (by exact hg)]
    exact ⟨flatRead_word s f _, flatRead_word s g _, rfl⟩
  · rw [jumpTo_thumb hv, refill_flat (by exact hc) (by exact hf) (by exact hg)]
    exact ⟨halfAt_eq s f _, halfAt_eq s g _, rfl⟩
  · have hn : instrWidth s = .word := by rw [instrWidth, ht]; rfl
    rw [fillPipeline_flat hn hc hf hg]
    exact ⟨flatRead_word s f _, flatRead_word s g _, rfl, rfl, rfl, rfl, by constructor <;> rfl⟩
  · have hn : instrWidth s = .half := by rw [instrWidth, ht]; rfl
    rw [fillPipeline_flat hn hc hf hg]
    exact ⟨halfAt_eq s f _, halfAt_eq s g _, rfl, rfl, rfl, rfl, by constructor <;> rfl⟩

end Sys2Proof.Machine
end

section
/-! PROOFS. Writes of the program counter that branch: data processing, LDR and the branch exchanges
(spec/40_pipeline.md R406-R408; spec/41_arm_dataproc.md R512; spec/43_arm_loadstore.md R652; spec/44_arm_branch.md
R753-R755): O17, O26 and O40. -/

namespace Sys2Proof.Machine

open Sys2Proof Sys2Proof.Claims

/-! ### Aligned targets (R410) -/

theorem getLsbD_alignWord (a : Word) (i : Nat) : (alignWord a).getLsbD i = (decide (2 ≤ i) && a.getLsbD i) := by
  by_cases hi : i < 32
  · have mask : (0xFFFFFFFC#32).getLsbD i = decide (2 ≤ i) := by interval_cases i <;> rfl
    rw [alignWord, BitVec.getLsbD_and, mask, Bool.and_comm]
  · rw [BitVec.getLsbD_of_ge _ _ (by omega), BitVec.getLsbD_of_ge a _ (by omega), Bool.and_false]

theorem low_bits_zero {v : Word} (h : v.extractLsb' 0 2 = 0b00#2) : v.getLsbD 0 = false ∧ v.getLsbD 1 = false := by
  have bit : ∀ i, i < 2 → v.getLsbD i = (v.extractLsb' 0 2).getLsbD i := fun i hi => by
    rw [BitVec.getLsbD_extractLsb', decide_eq_true hi, Bool.true_and, Nat.zero_add]
  exact ⟨by rw [bit 0 (by omega), h]; rfl, by rw [bit 1 (by omega), h]; rfl⟩

/-- A value with bits 1:0 = 00 is aligned. -/
theorem alignWord_of_low_bits {v : Word} (h : v.extractLsb' 0 2 = 0b00#2) : alignWord v = v := by
  obtain ⟨h0, h1⟩ := low_bits_zero h
  apply BitVec.eq_of_getLsbD_eq
  intro i _
  rw [getLsbD_alignWord]
  match i with
  | 0 => rw [h0]; rfl
  | 1 => rw [h1]; rfl
  | i + 2 => rw [decide_eq_true (by omega), Bool.true_and]

/-! ### Frames that end in a jump -/

theorem KeepsBanks.trans {s t u : State} (h : KeepsBanks s t) (g : KeepsBanks t u) : KeepsBanks s u :=
  ⟨g.1.trans h.1, g.2.trans h.2, g.3.trans h.3, g.4.trans h.4, g.5.trans h.5⟩

theorem bankSpsr_charged (u t : State) (b : BankMode) : bankSpsr (charged u t) b = bankSpsr t b := by cases b <;> rfl

section Jumps
variable {regs : List Reg} {bits : List Nat} {s u t : State}

/-- What was changed before a jump, and the jump (R410). -/
theorem Frame.jump (h : Frame regs bits [] s u) (v : Word) : JumpFrame (15#4 :: regs) (5 :: bits) s (jumpTo u v) := by
  have hj := jumpTo_frame u v
  refine
    { regs := fun i hi => ?_, status := fun i hi => ?_, bytes := fun k hk => (hj.bytes k hk).trans (h.bytes k hk),
      banks := h.banks.trans hj.banks,
      spsr := fun b hb => (hj.spsr b hb).trans (h.spsr b hb), system := h.system.trans hj.system,
      cache := fun e => h.cache.trans (hj.cache (by rw [cachingActive, h.system.ctrl]; exact e)),
      devices := fun e => h.devices.trans (hj.devices (by rw [h.system.params]; exact e)) }
  · rw [List.mem_cons, not_or] at hi
    exact (hj.regs i (by simpa using hi.1)).trans (h.regs i hi.2)
  · rw [List.mem_cons, not_or] at hi
    exact (hj.status i (by simpa using hi.1)).trans (h.status i hi.2)

/-- The cycles charged to an instruction are outside the frame of its jump. -/
theorem JumpFrame.charged (h : JumpFrame regs bits s t) (u : State) : JumpFrame regs bits s (charged u t) := by
  obtain ⟨hr, hb, hk, ⟨⟩, hs, ⟨⟩, hc, hd⟩ := h
  exact ⟨hr, hb, hk, by constructor <;> assumption, fun b m => (bankSpsr_charged u t b).trans (hs b m),
    by constructor <;> assumption, fun e => ⟨(hc e).1, (hc e).2⟩,
    fun e => ⟨(hd e).1, (hd e).2, (hd e).3, (hd e).4, (hd e).5, (hd e).6, (hd e).7⟩⟩

/-- A jump within the state changes no status bit. -/
theorem JumpFrame.same_state (h : JumpFrame regs [5] s t) (ht : flagT t = flagT s) : JumpFrame regs [] s t :=
  { h with
    status := fun i _ => by
      by_cases hi : i = 5
      · rw [hi]
        exact ht
      · exact h.status i (by simpa using hi) }

end Jumps

/-- An interworking write of the program counter (R407), after changes that the frame lists. -/
theorem interworks_of_frame {i : Instr} {v : Word} {regs : List Reg} {s u : State} {P : State → Prop}
    (hx : exec i s = finish s (bxWritePc u v)) (hf : Frame regs [] [] s u) (hp : P (charged s (jumpTo u v))) :
    interworks i v regs s P := by
  unfold interworks
  split
  next h => rw [hx, bxWritePc, h]; rfl
  next h =>
    have hb : (v.extractLsb' 0 2 == 0b10#2) = false := beq_false_of_ne h
    rw [bxWritePc, hb, unpredictableIf_false] at hx
    exact completes_finish hx rfl ⟨(hf.jump v).charged s, jumpTo_jumpedTo u v, hp⟩

/-! ### Data processing (R512) -/

/-- What each form of data processing does once its should-be-zero field is checked (R500). -/
def dpBody (op : DpOp) (sf : Bool) (rn rd : Reg) : Operand2 → State → Res Unit
  | .immShift imm st rm => dpImmShift op sf rn rd imm st rm
  | .regShift rs st rm => dpRegShift op sf rn rd rs st rm
  | .imm rot imm => dpImm op sf rn rd rot imm

section DataProcessing
variable {op : DpOp} {rn rd : Reg} {o : Operand2}

theorem exec_dpInstr (cond : BitVec 4) (sf : Bool) (h : dpFieldsZero op rn rd = true) (s : State) :
    exec (dpInstr op cond sf rn rd o) s = runIf cond s (dpBody op (dpSets op sf) rn rd o) := by
  cases op with
  | tst | teq | cmp | cmn =>
    obtain rfl : rd = 0#4 := by simpa [dpFieldsZero] using h
    cases o <;> cases sf <;> rfl
  | mov | mvn =>
    obtain rfl : rn = 0#4 := by simpa [dpFieldsZero] using h
    cases o <;> cases sf <;> rfl
  | _ => cases o <;> cases sf <;> rfl

/-- A legal form is the one operation on its shifter output (R511, R512). -/
theorem dpBody_legal (sf : Bool) (h : operandLegal rn rd o = true) (s : State) :
    dpBody op sf rn rd o s = dataProc op sf rn rd (operandOut s o) s := by
  cases o with
  | immShift imm st rm => rfl
  | imm rot imm => rfl
  | regShift rs st rm =>
    have hpc : (rd == 15#4 || rn == 15#4 || rm == 15#4 || rs == 15#4) = false := by
      simpa [operandLegal, and_assoc] using h
    rw [dpBody, dpRegShift, hpc, unpredictableIf_false]
    rfl

theorem operandOut_begun (s : State) (o : Operand2) : operandOut (begun s) o = operandOut s o := by cases o <;> rfl

/-- The result of each of the sixteen functions (R520-R535). -/
theorem dpAlu_value (op : DpOp) (a : Word) (o : ShiftOut) (c : Bool) :
    (dpAlu op a o c).value = dpValue op a o.value c := by
  have borrow : ∀ x y : Word, (x + ~~~y + if c then 1#32 else 0#32) = x - y - if c then 0#32 else 1#32 := by
    intro x y
    cases c with
    | true => exact (add_not_one x y).trans (BitVec.sub_zero _).symm
    | false =>
      rw [← add_not_one x y]
      simp
  cases op with
  | sub | cmp | rsb => exact (addWithCarry_value ..).trans (add_not_one _ _)
  | add | cmn => exact (addWithCarry_value ..).trans (BitVec.add_zero _)
  | adc => exact addWithCarry_value ..
  | sbc | rsc => exact (addWithCarry_value ..).trans (borrow _ _)
  | and | eor | tst | teq | orr | mov | bic | mvn => rfl

/-- A result for the program counter is branched to, or returned to where S = 1 (R512). -/
theorem dataProc_pc (hw : dpWrites op = true) (sf : Bool) (x : ShiftOut) (s : State) :
    dataProc op sf rn 15#4 x s =
      if sf then exceptionReturn s (dpValue op (reg s rn) x.value (flagC s))
      else branchWritePc s (dpValue op (reg s rn) x.value (flagC s)) := by
  simp only [dataProc, hw, dpAlu_value, BEq.rfl, Bool.and_self, if_true]

/-- A legal form with Rd = 15 whose condition passes. -/
theorem exec_dpInstr_pc {s : State} {cond : BitVec 4} (hc : passes s cond) (hw : dpWrites op = true)
    (hz : dpFieldsZero op rn 15#4 = true) (hl : operandLegal rn 15#4 o = true) (sf : Bool) :
    exec (dpInstr op cond sf rn 15#4 o) s = finish s
      (if sf then exceptionReturn (begun s) (dpValue op (reg s rn) (operandOut s o).value (flagC s))
        else branchWritePc (begun s) (dpValue op (reg s rn) (operandOut s o).value (flagC s))) := by
  have hs : dpSets op sf = sf := by rw [dpSets, hw, Bool.not_true, Bool.or_false]
  rw [exec_dpInstr cond sf hz, runIf_pass _ hc, run, dpBody_legal _ hl, operandOut_begun, hs, dataProc_pc hw]
  rfl

end DataProcessing

/-- A branch to an aligned value in ARM state (R406). -/
theorem branchWritePc_arm {s : State} {v : Word} (ht : flagT s = false) (hv : v.extractLsb' 0 2 = 0b00#2) :
    branchWritePc s v = .ok () (jumpTo s v) := by
  rw [branchWritePc, ht, hv]
  rfl

/-- An unaligned branch in ARM state faults (R406). -/
theorem branchWritePc_arm_fault {s : State} {v : Word} (ht : flagT s = false) (hv : v.extractLsb' 0 2 ≠ 0b00#2) :
    branchWritePc s v = .fault .unalignedArmPc := by
  rw [branchWritePc, ht, bne_iff_ne.2 hv]
  rfl

/-- Settles O17: the result is branched to, in ARM state. -/
theorem dataProcessingBranches : Obligations.DataProcessingBranches := by
  intro s op cond rn o hc ht hw hz hl
  have hx := exec_dpInstr_pc hc hw hz hl false
  dsimp only
  rw [if_neg Bool.false_ne_true] at hx
  split
  next hv =>
    rw [branchWritePc_arm (by exact ht) hv] at hx
    obtain ⟨h0, -⟩ := low_bits_zero hv
    obtain ⟨hstate, hpc⟩ := jumpTo_jumpedTo (begun s)
      (dpValue op (reg s rn) (operandOut s o).value (flagC s))
    rw [h0] at hstate hpc
    refine completes_finish hx rfl ⟨(((Frame.begun s).jump _).charged s).same_state (hstate.trans ht.symm), ?_⟩
    rw [reg_charged, hpc, alignWord_of_low_bits hv]
    rfl
  next hv => rw [hx, branchWritePc_arm_fault (by exact ht) hv]; rfl

/-! ### LDR to the program counter (R652) -/

/-- A base that is written back is not the program counter (R651). -/
theorem mode2Legal_base {x : Index2} {rn rd : Reg} {off : Offset2} (h : mode2Legal x rn rd off = true) (s : State)
    (u : Bool) (hw : (mode2Addr s x u rn off).wb = true) : rn ≠ 15#4 := by
  have hw2 : mode2Writes x = true := (indexed_mode2_wb x u _ _).symm.trans hw
  simp only [mode2Legal, hw2, Bool.and_eq_true, Bool.not_true, Bool.false_or, bne_iff_ne] at h
  obtain ⟨⟨hpc, -⟩, -⟩ := h
  exact hpc

/-- A word loaded from flat memory, and what follows its access (R652). -/
theorem loadOf_word_flat {s : State} {rn rd : Reg} {x : Addr} {f : Word × Nat}
    (hf : flatAccess s f (alignWord x.address) .word false) :
    loadOf .word s rn rd x =
      loadEnd .word rn rd x (word4At s f (alignWord x.address)) (recordAccess s (alignWord x.address) .word) := by
  have hload : load s (alignWord x.address) .word = .ok (word4At s f (alignWord x.address)) _ :=
    (load_flat hf.2 hf.1).trans (congrArg (Res.ok · _) (flatRead_word s f _))
  rw [loadOf_eq]
  show (load s (alignWord x.address) .word).bind _ = _
  rw [hload, Res.bind_ok]

/-- What LDR to the program counter does with its word: from an aligned address it interworks on it (R652). -/
theorem loadEnd_pc (rn : Reg) (x : Addr) (v : Word) (t : State) : loadEnd .word rn 15#4 x v t =
    if x.address.extractLsb' 0 2 = 0b00#2 then bxWritePc (writeback t x.wb rn x.moved) v
    else .fault .misalignedLoadPc := by
  rw [loadEnd, if_pos rfl]
  split
  next ha =>
    have hv : loadResult x.address v .word = v := by
      rw [loadResult, ha]
      exact BitVec.eq_of_getLsbD_eq fun i hi => by simp [ror, hi]
    rw [ha, hv]
    rfl
  next ha => rw [bne_iff_ne.2 ha, unpredictableIf_true]

/-- Settles O26: the base is written back, then the loaded word interworks. -/
theorem loadWordToPc : Obligations.LoadWordToPc := by
  intro s x cond u rn off f hc hl hx
  dsimp only
  intro hf
  have hop : ((15#4 : Reg) != 15#4 || Op2.ldr == Op2.str || (Op2.ldr == Op2.ldr && x != .translated)) = true := by
    simpa using hx
  have hex := exec_mode2_legal (u := u) hc hl hop
  have hbase := mode2Legal_base hl s u
  rw [body2, loadOf_word_flat (s := begun s) hf, loadEnd_pc] at hex
  split
  next ha =>
    rw [if_pos ha, alignWord_of_low_bits ha] at hex
    refine interworks_of_frame hex (((Frame.begun s).recordAccess _ _).writeback mem_baseList _) fun hw => ?_
    rw [reg_charged, (jumpTo_keep _ _).regs _ (hbase hw)]
    exact writeback_moves _ _ _ _ hw
  next ha => rw [hex, if_neg ha]; rfl

/-! ### Branch exchanges (R753-R755) -/

/-- The link of a call in ARM state: the instruction's address plus 4 (R754). -/
theorem instrAddr_arm {s : State} (ht : flagT s = false) : instrAddr s + 4#32 = reg s 15#4 - 4#32 := by
  rw [instrAddr, ht]
  show reg s 15#4 - 8#32 + 4#32 = _
  bv_omega

/-- Settles O40: each is an interworking write of Rm, BLX(2) with the link written before it. -/
theorem branchExchanges : Obligations.BranchExchanges := by
  intro s cond rm hc ht
  refine ⟨?_, fun hm => ?_, fun hm => ?_⟩
  · exact interworks_of_frame (runIf_pass _ hc) (Frame.begun s) trivial
  · have hb : (rm == 15#4) = false := beq_false_of_ne hm
    have hx : exec (.bxj cond 0xFFF#12 rm) s =
      finish s (unpredictableIf (rm == 15#4) .bxjPc (bxWritePc (begun s) (reg s rm))) := runIf_pass _ hc
    rw [hb, unpredictableIf_false] at hx
    exact interworks_of_frame hx (Frame.begun s) trivial
  · have hb : (rm == 15#4) = false := beq_false_of_ne hm
    have hx : exec (.blxReg cond 0xFFF#12 rm) s = finish s (unpredictableIf (rm == 15#4) .blxPc
      (bxWritePc (setReg (begun s) 14#4 (instrAddr (begun s) + 4#32)) (reg s rm))) := runIf_pass _ hc
    rw [hb, unpredictableIf_false, instrAddr_arm (s := begun s) ht] at hx
    refine interworks_of_frame hx ((Frame.begun s).setReg _ List.mem_cons_self) ?_
    rw [reg_charged, (jumpTo_keep _ _).regs _ (by decide), reg_setReg_same]
    rfl

end Sys2Proof.Machine
end

section
/-! PROOFS. The return from an exception (spec/40_pipeline.md R408, R410; spec/60_exceptions.md R1120-R1122): O18. -/

namespace Sys2Proof.Machine

open Sys2Proof Sys2Proof.Claims

/-! ### The restored status (R1120, R1121) -/

/-- The state a return jumps from: the saved status in place, J clear, and the banks exchanged; in USR and SYS, bit 4 of
the status set. -/
def restored (s : State) : State :=
  match bankOf (curMode s) with
  | some b => replaceCpsr s (setBit (bankSpsr s b) 4 true)
  | none => { s with cpsr := setBit s.cpsr 4 true }

section Restored
variable {s : State}

/-- A mode without a bank has bit 4 set, so setting it changes nothing (R111, R1121). -/
theorem returnStatus_unbanked (hm : modeLegal s) (hb : bankOf (curMode s) = none) : returnStatus s = s.cpsr := by
  have bit4 : ∀ m : BitVec 5, validMode m = true → bankOf m = none → m.getLsbD 4 = true := by decide
  have h4 : s.cpsr.getLsbD 4 = true := by simpa [curMode, modeOf] using bit4 (curMode s) hm.1 hb
  rw [returnStatus, hb]
  apply BitVec.eq_of_getLsbD_eq
  intro i _
  rw [getLsbD_setBit]
  split
  next hi => rw [hi.1, h4]
  · rfl

/-- The restored status is checked before it is installed (D60); in USR and SYS there is none to check. -/
theorem restoreSavedStatus_eq (hm : modeLegal s) : restoreSavedStatus s =
    unpredictableIf (!validMode (modeOf (returnStatus s))) .badMode (.ok () (restored s)) := by
  cases hb : bankOf (curMode s) with
  | some b =>
    rw [restoreSavedStatus, restored, returnStatus, hb]
    dsimp only
    rw [modeOf_setBit false (by omega)]
    rfl
  | none =>
    have hvalid : validMode (modeOf (returnStatus s)) = true := by rw [returnStatus_unbanked hm hb]; exact hm.1
    rw [hvalid, restoreSavedStatus, restored, hb]
    rfl

/-- A return installs its status, and leaves everything else but the registers and the banks alone. -/
theorem restored_keeps (s : State) : ExchangeKeeps { s with cpsr := returnStatus s } (restored s) := by
  cases hb : bankOf (curMode s) with
  | some b =>
    rw [restored, returnStatus, hb]
    exact switchMode_keeps _ _ _
  | none =>
    rw [restored, returnStatus, hb]
    exact .refl _

theorem restored_cpsr (s : State) : (restored s).cpsr = returnStatus s := (restored_keeps s).cpsr

/-- The registers and the banks are those of an exchange for the restored mode (R1120). -/
theorem restored_sameBanks (hm : modeLegal s) :
    SameBanks (switchMode s (curMode s) (modeOf (returnStatus s))) (restored s) := by
  cases hb : bankOf (curMode s) with
  | some b =>
    have h : SameBanks s { s with cpsr := setBit (setBit (bankSpsr s b) 4 true) 24 false } :=
      ⟨rfl, by constructor <;> rfl⟩
    rw [restored, returnStatus, hb]
    dsimp only
    rw [modeOf_setBit false (by omega)]
    exact h.switchMode _ _
  | none =>
    rw [returnStatus_unbanked hm hb, show modeOf s.cpsr = curMode s from rfl, switchMode, if_pos rfl, restored, hb]
    exact ⟨rfl, by constructor <;> rfl⟩

end Restored

/-! ### The jump of a return (R410) -/

/-- What a return jumps to: its target with the state bit of the restored status (R410, R1122). -/
def returnTarget (v : Word) (thumb : Bool) : Word := alignHalf v ||| (if thumb then 1#32 else 0#32)

theorem returnTarget_state (v : Word) (thumb : Bool) : (returnTarget v thumb).getLsbD 0 = thumb := by
  cases thumb <;> simp [returnTarget, alignHalf]

theorem alignHalf_returnTarget (v : Word) : alignHalf (returnTarget v true) = alignHalf v := by
  apply BitVec.eq_of_getLsbD_eq
  intro i hi
  interval_cases i <;> simp [returnTarget, alignHalf]

theorem alignWord_returnTarget (v : Word) : alignWord (returnTarget v false) = alignWord v := by
  simp [returnTarget, alignHalf, alignWord, BitVec.and_assoc]

/-- A return checks the restored status, then the target of ARM state, and jumps (R408, R410). -/
theorem exceptionReturn_eq {s : State} (hm : modeLegal s) (v : Word) : exceptionReturn s v =
    unpredictableIf (!validMode (modeOf (returnStatus s))) .badMode
      (unpredictableIf (!(returnStatus s).getLsbD 5 && v.extractLsb' 0 2 != 0b00#2) .unalignedArmReturn
        (.ok () (jumpTo (restored s) (returnTarget v ((returnStatus s).getLsbD 5))))) := by
  rw [exceptionReturn, restoreSavedStatus_eq hm, unpredictableIf_bind, Res.bind_ok, flagT, restored_cpsr]
  rfl

/-- The state a return leaves is the one R410 and R1120 give. -/
theorem returnsTo_jump {s : State} (hm : modeLegal s) (v : Word) :
    ReturnsTo v s (jumpTo (restored s) (returnTarget v ((returnStatus s).getLsbD 5))) := by
  have hk := restored_keeps s
  have hb := restored_sameBanks hm
  have hj := jumpTo_frame (restored s) (returnTarget v ((returnStatus s).getLsbD 5))
  have hsys : KeepsSystem s (restored s) := by obtain ⟨⟩ := hk.system; constructor <;> assumption
  have hcache : KeepsCache s (restored s) := by obtain ⟨⟩ := hk.cache; constructor <;> assumption
  have hdev : KeepsDevices s (restored s) := by obtain ⟨⟩ := hk.devices; constructor <;> assumption
  refine
    { status := ?_, pc := ?_, regs := fun i hi => (hj.regs i (by simpa using hi)).trans (reg_congr hb.regs i),
      banks := hb.banks.trans hj.banks,
      spsr := fun b h => (hj.spsr b h).trans ((hk.spsr b).trans (by cases b <;> rfl)),
      bytes := fun k h => (hj.bytes k h).trans (by rw [hk.mem]), system := hsys.trans hj.system,
      cache := fun e => hcache.trans (hj.cache (by rw [cachingActive, hsys.ctrl]; exact e)),
      devices := fun e => hdev.trans (hj.devices (by rw [hsys.params]; exact e)) }
  · rw [jumpTo_cpsr, returnTarget_state, restored_cpsr]
    apply BitVec.eq_of_getLsbD_eq
    intro i _
    rw [getLsbD_setBit]
    split
    next hi => rw [hi.1]
    · rfl
  · rw [jumpTo_pc, returnTarget_state]
    cases (returnStatus s).getLsbD 5 with
    | true => rw [if_pos rfl, if_pos rfl, alignHalf_returnTarget]
    | false => rw [if_neg Bool.false_ne_true, if_neg Bool.false_ne_true, alignWord_returnTarget]

/-! ### Instructions that return -/

section Transfer
variable {v : Word} {s s' t : State}

/-- The cycles charged to an instruction are outside what a return says. -/
theorem returnsTo_charged (h : ReturnsTo v s t) (u : State) : ReturnsTo v s (charged u t) := by
  obtain ⟨h1, h2, h3, ⟨⟩, h5, h6, ⟨⟩, hc, hd⟩ := h
  exact ⟨h1, h2, h3, by constructor <;> assumption, fun b m => (bankSpsr_charged u t b).trans (h5 b m), h6,
    by constructor <;> assumption, fun e => ⟨(hc e).1, (hc e).2⟩,
    fun e => ⟨(hd e).1, (hd e).2, (hd e).3, (hd e).4, (hd e).5, (hd e).6, (hd e).7⟩⟩

theorem returnStatus_of_frame {regs : List Reg} {keys : List Nat} (hf : Frame regs [] keys s s') :
    returnStatus s' = returnStatus s := by
  have hm : curMode s' = curMode s := congrArg modeOf hf.cpsr_eq
  rw [returnStatus, returnStatus, hm, hf.cpsr_eq]
  cases bankOf (curMode s) with
  | some b => dsimp only; rw [hf.spsr b List.not_mem_nil]
  | none => rfl

/-- A return from a state is a return from every state that differs in costs alone. -/
theorem returnsTo_of_frame (hf : Frame [] [] [] s s') (h : ReturnsTo v s' t) : ReturnsTo v s t := by
  have hst := returnStatus_of_frame hf
  have hm : curMode s' = curMode s := congrArg modeOf hf.cpsr_eq
  have hb := hf.sameBanks.switchMode (curMode s) (modeOf (returnStatus s))
  have hctrl : cachingActive s' = cachingActive s := by rw [cachingActive, hf.system.ctrl, cachingActive]
  obtain ⟨hstatus, hpc, hregs, hbanks, hspsr, hbytes, hsys, hcache, hdev⟩ := h
  rw [hst] at hstatus hpc
  rw [hm, hst] at hregs hbanks
  exact
    { status := hstatus, pc := hpc, regs := fun i hi => (hregs i hi).trans (reg_congr hb.regs i),
      banks := hb.banks.trans hbanks,
      spsr := fun b hn => (hspsr b hn).trans (hf.spsr b hn), bytes := fun k hn => (hbytes k hn).trans (hf.bytes k hn),
      system := hf.system.trans hsys, cache := fun e => hf.cache.trans (hcache (hctrl.trans e)),
      devices := fun e => hf.devices.trans (hdev (hf.system.params.symm ▸ e)) }

/-- An instruction whose body ends in a return, from a state that differs from `s'` in costs alone. -/
theorem returning_of_frame {i : Instr} {u : State} (hx : exec i s = finish s (exceptionReturn u v))
    (hf : Frame [] [] [] s' u) (hm : modeLegal s') : returning i v s s' := by
  have hmu : modeLegal u := by rw [modeLegal, curMode, flagJ, hf.cpsr_eq]; exact hm
  rw [exceptionReturn_eq hmu, returnStatus_of_frame hf] at hx
  unfold returning
  cases hv : validMode (modeOf (returnStatus s')) with
  | false =>
    rw [if_pos rfl, hx, hv]
    rfl
  | true =>
    rw [hv, Bool.not_true, unpredictableIf_false] at hx
    rw [if_neg (by decide)]
    split
    next h =>
      rw [h.1, bne_iff_ne.2 h.2] at hx
      exact hx
    next h =>
      have hok : (!(returnStatus s').getLsbD 5 && v.extractLsb' 0 2 != 0b00#2) = false := by
        simpa [bne] using h
      rw [hok, unpredictableIf_false, ← returnStatus_of_frame hf] at hx
      exact completes_finish hx rfl (returnsTo_charged (returnsTo_of_frame hf (returnsTo_jump hmu v)) s)

end Transfer

/-- Settles O18: the result is returned to. -/
theorem dataProcessingReturns : Obligations.DataProcessingReturns := by
  intro s op cond rn o hc hm hw hz hl
  exact returning_of_frame (exec_dpInstr_pc hc hw hz hl true) (Frame.begun s) hm

end Sys2Proof.Machine
end

section
/-! PROOFS. Time within an instruction (spec/40_pipeline.md R422, R425): no part of an instruction moves the time or
takes back a cycle, and an instruction that ends has cost at least one. -/

namespace Sys2Proof.Machine

open Sys2Proof Sys2Proof.Claims

/-! ### What keeps the frame and the cycle counter -/

/-- The frame counter and the parameters are unchanged. -/
structure FrameKept (s t : State) : Prop where
  frameCount : t.frameCount = s.frameCount
  params : t.params = s.params

theorem FrameKept.refl (s : State) : FrameKept s s := ⟨rfl, rfl⟩

theorem FrameKept.trans {s t u : State} (h : FrameKept s t) (g : FrameKept t u) : FrameKept s u :=
  ⟨g.1.trans h.1, g.2.trans h.2⟩

/-- The time is unchanged too, and no cycle is taken back. -/
structure Ticks (s t : State) : Prop extends FrameKept s t where
  now : t.now = s.now
  cycles : s.cycles ≤ t.cycles

theorem Ticks.refl (s : State) : Ticks s s := ⟨.refl s, rfl, le_refl _⟩

theorem Ticks.trans {s t u : State} (h : Ticks s t) (g : Ticks t u) : Ticks s u :=
  ⟨h.toFrameKept.trans g.toFrameKept, g.now.trans h.now, h.cycles.trans g.cycles⟩

/-- A change of other fields. -/
theorem Ticks.update {s t u : State} (h : Ticks s t) (hf : u.frameCount = t.frameCount) (hp : u.params = t.params)
    (hn : u.now = t.now) (hc : u.cycles = t.cycles) : Ticks s u := h.trans ⟨⟨hf, hp⟩, hn, hc.ge⟩

theorem CallsKeep.ticks {s t : State} (k : CallsKeep s t) : Ticks s t :=
  (Ticks.refl s).update k.frameCount k.params k.now k.cycles

theorem FetchKeep.ticks {s t : State} (k : FetchKeep s t) : Ticks s t :=
  (Ticks.refl s).update k.frameCount k.params k.now k.cycles

/-! ### The shared operations -/

section Operations
variable {s t : State}

theorem Ticks.setReg (h : Ticks s t) (i : Reg) (v : Word) : Ticks s (setReg t i v) := h.update rfl rfl rfl rfl

theorem Ticks.setFlags (h : Ticks s t) (w : Word) : Ticks s (setFlags t w) := h.update rfl rfl rfl rfl

theorem Ticks.writeback (h : Ticks s t) (wb : Bool) (rn : Reg) (m : Word) : Ticks s (writeback t wb rn m) := by
  cases wb with
  | true => exact h.setReg rn m
  | false => exact h

theorem Ticks.setBankSpsr (h : Ticks s t) (b : BankMode) (v : Word) : Ticks s (setBankSpsr t b v) := by
  cases b <;> exact h.update rfl rfl rfl rfl

theorem Ticks.setUserReg (h : Ticks s t) (i : Reg) (v : Word) : Ticks s (setUserReg t i v) := by
  unfold Machine.setUserReg
  split
  next b _ => cases b <;> exact h.update rfl rfl rfl rfl
  · exact h.setReg i v

theorem Ticks.swapBank (h : Ticks s t) (b : Option BankMode) : Ticks s (swapBank t b) := by
  match b with
  | none => exact h
  | some .fiq | some .irq | some .svc | some .abt | some .und => exact h.update rfl rfl rfl rfl

theorem Ticks.replaceCpsr (h : Ticks s t) (v : Word) : Ticks s (replaceCpsr t v) := by
  have hc : Ticks s { t with cpsr := setBit v 24 false } := h.update rfl rfl rfl rfl
  unfold Machine.replaceCpsr switchMode
  split
  · exact hc
  · exact (hc.swapBank _).swapBank _

/-- A fetch of a jump costs what it costs (R410). -/
theorem Ticks.chargedFetch (h : Ticks s t) (a : Word) (n : Width) (q : Bool) : Ticks s (chargedFetch t a n q).2 :=
  (h.trans (fetchCode_fetch t a n q).ticks).trans ⟨⟨rfl, rfl⟩, rfl, Nat.le_add_right _ _⟩

theorem Ticks.refill (h : Ticks s t) (a : Word) (n : Width) : Ticks s (refill t a n) := by
  have hx := (h.setReg 15#4 (a + n.size)).chargedFetch a n false
  unfold Machine.refill
  generalize Machine.chargedFetch (Machine.setReg t 15#4 (a + n.size)) a n false = x at hx ⊢
  have hslot : Ticks s { x.2 with slot0 := x.1 } := hx.update rfl rfl rfl rfl
  have hy := hslot.chargedFetch (a + n.size) n true
  dsimp only
  generalize Machine.chargedFetch { x.2 with slot0 := x.1 } (a + n.size) n true = y at hy ⊢
  exact hy.update rfl rfl rfl rfl

theorem Ticks.jumpTo (h : Ticks s t) (v : Word) : Ticks s (jumpTo t v) := by
  obtain ⟨c, b, n, e⟩ := jumpTo_refill t v
  have hc : Ticks s { t with cpsr := c, thumbStale := none } := h.update rfl rfl rfl rfl
  rw [e]
  exact hc.refill b n

theorem Ticks.enterException (h : Ticks s t) (k : Exc) (ret : Word) : Ticks s (enterException t k ret) :=
  Ticks.jumpTo (((h.setBankSpsr _ _).replaceCpsr _).setReg _ _) _

theorem Ticks.recordAccess (h : Ticks s t) (a : Word) (n : Width) : Ticks s (recordAccess t a n) :=
  h.update rfl rfl rfl rfl

theorem Ticks.busRead (h : Ticks s t) (a : Word) (n : Nat) : Ticks s (busRead t a n).2 :=
  h.trans (busRead_keeps t a n).ticks

theorem Ticks.busWrite (h : Ticks s t) (a : Word) (n : Nat) (v : Word) : Ticks s (busWrite t a n v) := by
  rcases busWrite_cases t a n v with ⟨f, -, hw⟩ | ⟨-, k⟩
  · rw [hw]
    exact h.update rfl rfl rfl rfl
  · exact h.trans k.ticks

theorem Ticks.setCache (h : Ticks s t) (c : Vector CacheSet 64) : Ticks s { t with ic := c } := h.update rfl rfl rfl rfl

theorem Ticks.cp15Write (h : Ticks s t) (key : BitVec 16) (v : Word) : Ticks s (cp15Write t key v) := by
  unfold Machine.cp15Write
  split_ifs
  · exact h.update rfl rfl rfl rfl
  · exact h.setCache _
  · exact h.setCache _
  · exact h.update rfl rfl rfl rfl
  · exact h

end Operations

/-! ### Parts of instructions -/

/-- A part of an instruction that moves no time and takes back no cycle of the state `s`. -/
def Res.TicksFrom {α : Type} (s : State) : Res α → Prop
  | .ok _ t => Ticks s t
  | .trap t => Ticks s t
  | .fault _ => True

section Sequencing
variable {α β : Type} {s : State} {r : Res α}

theorem Res.TicksFrom.bind {f : α → State → Res β} (h : r.TicksFrom s)
    (hf : ∀ a t, Ticks s t → (f a t).TicksFrom s) : (r.bind f).TicksFrom s := by
  cases r with
  | ok a t => exact hf a t h
  | trap t => exact h
  | fault e => trivial

theorem Res.TicksFrom.checked {bad : Bool} {e : Fault} (h : r.TicksFrom s) : (unpredictableIf bad e r).TicksFrom s := by
  cases bad with
  | false => exact h
  | true => trivial

theorem Res.TicksFrom.shouldBe {good : Bool} (h : r.TicksFrom s) : (shouldBe good r).TicksFrom s := h.checked

end Sequencing

section Parts
variable {s t : State}

theorem Ticks.raise (h : Ticks s t) {α : Type} (k : Exc) : (raise t k : Res α).TicksFrom s := h.enterException _ _

theorem Ticks.branchWritePc (h : Ticks s t) (v : Word) : (branchWritePc t v).TicksFrom s := by
  unfold Machine.branchWritePc
  split
  · exact h.jumpTo _
  · exact .checked (h.jumpTo _)

theorem Ticks.bxWritePc (h : Ticks s t) (v : Word) : (bxWritePc t v).TicksFrom s := .checked (h.jumpTo _)

theorem Ticks.writeCpsr (h : Ticks s t) (v : Word) : (writeCpsr t v).TicksFrom s := .checked (h.replaceCpsr _)

theorem Ticks.exceptionReturn (h : Ticks s t) (v : Word) : (exceptionReturn t v).TicksFrom s := by
  have hr : (restoreSavedStatus t).TicksFrom s := by
    unfold restoreSavedStatus
    split
    · exact h.writeCpsr _
    · exact h.update rfl rfl rfl rfl
  exact hr.bind fun _ _ hu => .checked (hu.jumpTo _)

theorem Ticks.load (h : Ticks s t) (a : Word) (n : Width) : (load t a n).TicksFrom s := by
  unfold Machine.load
  split
  · exact h.raise _
  · exact (h.recordAccess a n).busRead a n.bytes

theorem Ticks.loadRotated (h : Ticks s t) (a : Word) : (loadRotated t a).TicksFrom s :=
  (h.load _ .word).bind fun _ _ hu => hu

theorem Ticks.store (h : Ticks s t) (a : Word) (n : Width) (v : Word) : (store t a n v).TicksFrom s := by
  unfold Machine.store
  split
  · exact h.raise _
  · exact (h.recordAccess a n).busWrite a n.bytes v

theorem Ticks.loadEach {put : State → Reg → Word → State} (hp : ∀ {t}, Ticks s t → ∀ i v, Ticks s (put t i v))
    (h : Ticks s t) (l : List Nat) (a : Word) : (loadEach put l a t).TicksFrom s := by
  induction l generalizing a t with
  | nil => exact h
  | cons i r ih => exact (h.load a .word).bind fun v _ hu => ih (hp hu _ v) _

theorem Ticks.storeEach (h : Ticks s t) (get : State → Reg → Word) (l : List Nat) (a : Word) :
    (storeEach get l a t).TicksFrom s := by
  induction l generalizing a t with
  | nil => exact h
  | cons i r ih => exact (h.store a .word _).bind fun _ _ hu => ih hu _

/-! ### Bodies that instructions share -/

theorem Ticks.dataProc (h : Ticks s t) (op : DpOp) (sf : Bool) (rn rd : Reg) (o : ShiftOut) :
    (dataProc op sf rn rd o t).TicksFrom s := by
  unfold Machine.dataProc
  dsimp only
  split
  · split
    · exact h.exceptionReturn _
    · exact h.branchWritePc _
  · have ht : Ticks s (if dpWrites op then Machine.setReg t rd (dpAlu op (reg t rn) o (flagC t)).value else t) := by
      split
      · exact h.setReg _ _
      · exact h
    split
    · exact ht.setFlags _
    · exact ht

theorem Ticks.withSpsrBank {f : BankMode → Res Unit} (hf : ∀ b, (f b).TicksFrom s) :
    (withSpsrBank t f).TicksFrom s := by
  unfold Machine.withSpsrBank
  split
  · exact hf _
  · trivial

theorem Ticks.msrWrite (h : Ticks s t) (r : Bool) (f : BitVec 4) (v : Word) : (msrWrite t r f v).TicksFrom s := by
  unfold Machine.msrWrite
  split
  · exact withSpsrBank fun b => h.setBankSpsr b _
  · exact .checked (h.writeCpsr _)

theorem Ticks.product32 (h : Ticks s t) (sf : Bool) (rd : Reg) (r : Word) : (product32 t sf rd r).TicksFrom s := by
  unfold Machine.product32
  cases sf with
  | true => exact (h.setReg rd r).setFlags _
  | false => exact h.setReg rd r

theorem Ticks.product64 (h : Ticks s t) (sf : Bool) (rdHi rdLo : Reg) (p : BitVec 64) :
    (product64 t sf rdHi rdLo p).TicksFrom s := by
  unfold Machine.product64
  cases sf with
  | true => exact ((h.setReg rdLo _).setReg rdHi _).setFlags _
  | false => exact (h.setReg rdLo _).setReg rdHi _

/-- A register and the flags written. -/
theorem Ticks.setRegFlags (h : Ticks s t) (i : Reg) (v w : Word) :
    (Machine.done (Machine.setFlags (Machine.setReg t i v) w)).TicksFrom s := (h.setReg i v).setFlags w

theorem Ticks.hiWrite (h : Ticks s t) (rd : Reg) (v : Word) : (hiWrite t rd v).TicksFrom s := by
  unfold Machine.hiWrite
  split
  · exact h.branchWritePc v
  · exact h.setReg rd v

theorem Ticks.mode4 (h : Ticks s t) (p u : Bool) (rn : Reg) (list : BitVec 16) : (mode4 t p u rn list).TicksFrom s :=
  .checked (.checked h)

theorem Ticks.cp15Access (h : Ticks s t) (cp : BitVec 4) {r : Res Unit} (hr : r.TicksFrom s) :
    (cp15Access t cp r).TicksFrom s := by
  unfold Machine.cp15Access
  split
  · exact h.raise _
  · exact hr

/-- Every load of one register (R652-R668). -/
theorem Ticks.loadOf (h : Ticks s t) (k : LoadKind) (rn rd : Reg) (x : Addr) : (loadOf k t rn rd x).TicksFrom s := by
  have hend : ∀ v u, Ticks s u → (loadEnd k rn rd x v u).TicksFrom s := fun v u hu => by
    cases k with
    | word =>
      rw [loadEnd]
      split
      · exact .checked ((hu.writeback ..).bxWritePc _)
      · exact (hu.setReg _ _).writeback ..
    | byte | half | signedByte | signedHalf => exact (hu.setReg _ _).writeback ..
  rw [loadOf_eq]
  exact .checked ((h.load _ _).bind hend)

/-- Every store of one register (R654-R669). -/
theorem Ticks.storeOf (h : Ticks s t) (n : Width) (rn rd : Reg) (x : Addr) : (storeOf n t rn rd x).TicksFrom s := by
  rw [storeOf_eq]
  exact .checked ((h.store _ _ _).bind fun _ _ hu => hu.writeback ..)

theorem Ticks.loadDouble (h : Ticks s t) (rm : Option Reg) (rn rd : Reg) (x : Addr) :
    (loadDouble rm t rn rd x).TicksFrom s :=
  .checked (.checked (.checked ((h.load _ _).bind fun _ _ hu => ((hu.setReg _ _).load _ _).bind fun _ _ hv =>
    (hv.setReg _ _).writeback ..)))

theorem Ticks.storeDouble (h : Ticks s t) (rn rd : Reg) (x : Addr) : (storeDouble t rn rd x).TicksFrom s :=
  .checked ((h.store _ _ _).bind fun _ _ hu => (hu.store _ _ _).bind fun _ _ hv => hv.writeback ..)

theorem Ticks.mode2Imm (h : Ticks s t) (p u w : Bool) (rn rd : Reg) (imm : BitVec 12) :
    (mode2Imm t p u w rn rd imm).TicksFrom s := .checked (.checked h)

theorem Ticks.mode2Reg (h : Ticks s t) (p u w : Bool) (rn rd : Reg) (imm : BitVec 5) (st : BitVec 2) (rm : Reg) :
    (mode2Reg t p u w rn rd imm st rm).TicksFrom s := .checked (.checked (.checked (.checked h)))

theorem Ticks.mode3Imm (h : Ticks s t) (p u w : Bool) (rn rd : Reg) (hi lo : BitVec 4) :
    (mode3Imm t p u w rn rd hi lo).TicksFrom s := .checked (.checked (.checked h))

theorem Ticks.mode3Reg (h : Ticks s t) (p u w : Bool) (rn rd : Reg) (sbz : BitVec 4) (rm : Reg) :
    (mode3Reg t p u w rn rd sbz rm).TicksFrom s := .shouldBe (.checked (.checked (.checked (.checked h))))

end Parts

/-! ### Every instruction -/

/-- An instruction that ends in a next state has moved no time and has cost at least one cycle; it is never refused. -/
def OutTicks (s : State) : Out → Prop
  | .next t => Ticks s t ∧ s.cycles < t.cycles
  | .fault _ => True
  | .refused _ => False

section Out
variable {s : State} {body : State → Res Unit}

/-- `EXEC_CYCLES` is at least 1 (R425, D32). -/
theorem charged_ticks {t : State} (h : Ticks s t) (u : State) :
    Ticks s (charged u t) ∧ s.cycles < (charged u t).cycles := by
  have hcost : 1 ≤ Config.execCycles u.curInstr (flagT u) u.codeCycles t.dataCosts := le_max_left _ _
  have hc : s.cycles < (charged u t).cycles := Nat.lt_of_le_of_lt h.cycles (Nat.lt_add_of_pos_right hcost)
  exact ⟨⟨⟨h.frameCount, h.params⟩, h.now, hc.le⟩, hc⟩

theorem OutTicks.run (hb : ∀ {t}, Ticks s t → (body t).TicksFrom s) : OutTicks s (run s body) := by
  have h := hb (t := begun s) ((Ticks.refl s).update rfl rfl rfl rfl)
  unfold Machine.run
  cases hr : body (begun s) with
  | ok a t => rw [hr] at h; exact charged_ticks h s
  | trap t => rw [hr] at h; exact charged_ticks h s
  | fault f => trivial

theorem OutTicks.skipped (hs : 0 < s.codeCycles) : OutTicks s (.next (chargeFetch s)) :=
  have hc : s.cycles < s.cycles + s.codeCycles := Nat.lt_add_of_pos_right hs
  ⟨⟨⟨rfl, rfl⟩, rfl, hc.le⟩, hc⟩

theorem OutTicks.runIf (hs : 0 < s.codeCycles) {c : BitVec 4} (hb : ∀ {t}, Ticks s t → (body t).TicksFrom s) :
    OutTicks s (runIf c s body) := by
  unfold Machine.runIf
  split
  · exact .run hb
  · exact .skipped hs

end Out

/-- Every instruction of a step whose fetch was charged: each row through the shared operation its meaning ends in. -/
theorem exec_ticks (i : Instr) {s : State} (hs : 0 < s.codeCycles) : OutTicks s (exec i s) := by
  unfold exec
  cases i with dsimp only
  -- data processing
  | andImmShift | eorImmShift | subImmShift | rsbImmShift | addImmShift | adcImmShift | sbcImmShift | rscImmShift
  | orrImmShift | bicImmShift | andImm | eorImm | subImm | rsbImm | addImm | adcImm | sbcImm | rscImm | orrImm
  | bicImm => exact .runIf hs fun h => h.dataProc ..
  | tstImmShift | teqImmShift | cmpImmShift | cmnImmShift | movImmShift | mvnImmShift | tstImm | teqImm | cmpImm
  | cmnImm | movImm | mvnImm => exact .runIf hs fun h => .shouldBe (h.dataProc ..)
  | andRegShift | eorRegShift | subRegShift | rsbRegShift | addRegShift | adcRegShift | sbcRegShift | rscRegShift
  | orrRegShift | bicRegShift => exact .runIf hs fun h => .checked (h.dataProc ..)
  | tstRegShift | teqRegShift | cmpRegShift | cmnRegShift | movRegShift | mvnRegShift =>
    exact .runIf hs fun h => .shouldBe (.checked (h.dataProc ..))
  -- status access and saturating arithmetic
  | mrs =>
    refine .runIf hs fun h => .shouldBe (.checked ?_)
    split
    · exact Ticks.withSpsrBank fun b => h.setReg _ _
    · exact h.setReg _ _
  | msrReg => exact .runIf hs fun h => .shouldBe (.checked (h.msrWrite ..))
  | msrImm => exact .runIf hs fun h => .shouldBe (h.msrWrite ..)
  | clz => exact .runIf hs fun h => .shouldBe (.checked (h.setReg ..))
  | qadd | qsub | qdadd | qdsub => exact .runIf hs fun h => .shouldBe (.checked (h.setRegFlags ..))
  -- multiplies
  | mul => exact .runIf hs fun h => .shouldBe (.checked (.checked (h.product32 ..)))
  | mla => exact .runIf hs fun h => .checked (.checked (h.product32 ..))
  | umull | umlal | smull | smlal => exact .runIf hs fun h => .checked (.checked (.checked (h.product64 ..)))
  | smlaXY | smlawY => exact .runIf hs fun h => .checked (h.setRegFlags ..)
  | smulwY | smulXY => exact .runIf hs fun h => .shouldBe (.checked (h.setReg ..))
  | smlalXY => exact .runIf hs fun h => .checked (.checked (h.product64 ..))
  -- swap
  | swp =>
    exact .runIf hs fun h => .shouldBe (.checked (.checked ((h.loadRotated _).bind fun _ _ hu =>
      (hu.store ..).bind fun _ _ hv => hv.setReg ..)))
  | swpb =>
    exact .runIf hs fun h => .shouldBe (.checked (.checked ((h.load ..).bind fun _ _ hu =>
      (hu.store ..).bind fun _ _ hv => hv.setReg ..)))
  -- addressing mode 2
  | ldrImmPre | ldrImmPost => exact .runIf hs fun h => (h.mode2Imm ..).bind fun _ _ hx => hx.loadOf .word ..
  | ldrRegPre | ldrRegPost => exact .runIf hs fun h => (h.mode2Reg ..).bind fun _ _ hx => hx.loadOf .word ..
  | ldrtImm => exact .runIf hs fun h => .checked ((h.mode2Imm ..).bind fun _ _ hx => hx.loadOf .word ..)
  | ldrtReg => exact .runIf hs fun h => .checked ((h.mode2Reg ..).bind fun _ _ hx => hx.loadOf .word ..)
  | ldrbImmPre | ldrbImmPost | ldrbtImm =>
    exact .runIf hs fun h => .checked ((h.mode2Imm ..).bind fun _ _ hx => hx.loadOf .byte ..)
  | ldrbRegPre | ldrbRegPost | ldrbtReg =>
    exact .runIf hs fun h => .checked ((h.mode2Reg ..).bind fun _ _ hx => hx.loadOf .byte ..)
  | strImmPre | strImmPost | strtImm =>
    exact .runIf hs fun h => (h.mode2Imm ..).bind fun _ _ hx => hx.storeOf .word ..
  | strRegPre | strRegPost | strtReg =>
    exact .runIf hs fun h => (h.mode2Reg ..).bind fun _ _ hx => hx.storeOf .word ..
  | strbImmPre | strbImmPost | strbtImm =>
    exact .runIf hs fun h => .checked ((h.mode2Imm ..).bind fun _ _ hx => hx.storeOf .byte ..)
  | strbRegPre | strbRegPost | strbtReg =>
    exact .runIf hs fun h => .checked ((h.mode2Reg ..).bind fun _ _ hx => hx.storeOf .byte ..)
  -- addressing mode 3
  | strhImm => exact .runIf hs fun h => .checked ((h.mode3Imm ..).bind fun _ _ hx => hx.storeOf .half ..)
  | strhReg => exact .runIf hs fun h => .checked ((h.mode3Reg ..).bind fun _ _ hx => hx.storeOf .half ..)
  | ldrdImm => exact .runIf hs fun h => .checked ((h.mode3Imm ..).bind fun _ _ hx => hx.loadDouble ..)
  | ldrdReg => exact .runIf hs fun h => .checked ((h.mode3Reg ..).bind fun _ _ hx => hx.loadDouble ..)
  | strdImm => exact .runIf hs fun h => .checked ((h.mode3Imm ..).bind fun _ _ hx => hx.storeDouble ..)
  | strdReg => exact .runIf hs fun h => .checked ((h.mode3Reg ..).bind fun _ _ hx => hx.storeDouble ..)
  | ldrhImm => exact .runIf hs fun h => .checked ((h.mode3Imm ..).bind fun _ _ hx => hx.loadOf .half ..)
  | ldrhReg => exact .runIf hs fun h => .checked ((h.mode3Reg ..).bind fun _ _ hx => hx.loadOf .half ..)
  | ldrsbImm => exact .runIf hs fun h => .checked ((h.mode3Imm ..).bind fun _ _ hx => hx.loadOf .signedByte ..)
  | ldrsbReg => exact .runIf hs fun h => .checked ((h.mode3Reg ..).bind fun _ _ hx => hx.loadOf .signedByte ..)
  | ldrshImm => exact .runIf hs fun h => .checked ((h.mode3Imm ..).bind fun _ _ hx => hx.loadOf .signedHalf ..)
  | ldrshReg => exact .runIf hs fun h => .checked ((h.mode3Reg ..).bind fun _ _ hx => hx.loadOf .signedHalf ..)
  -- multiple transfers
  | ldm1 =>
    refine .runIf hs fun h => (h.mode4 ..).bind fun _ _ hx =>
      .checked ((hx.loadEach Ticks.setReg ..).bind fun _ _ hv => ?_)
    split
    · exact (hv.load ..).bind fun _ _ hw => (hw.writeback ..).bxWritePc _
    · exact hv.writeback ..
  | ldm2 =>
    exact .runIf hs fun h => (h.mode4 ..).bind fun _ _ hx =>
      .checked (.checked ((hx.loadEach Ticks.setUserReg ..).bind fun _ _ hv => hv))
  | ldm3 =>
    exact .runIf hs fun h => (h.mode4 ..).bind fun _ _ hx => .checked ((hx.loadEach Ticks.setReg ..).bind fun _ _ hv =>
      (hv.load ..).bind fun _ _ hw => (hw.writeback ..).exceptionReturn _)
  | stm1 =>
    exact .runIf hs fun h => (h.mode4 ..).bind fun _ _ hx => .checked ((hx.storeEach ..).bind fun _ _ hv =>
      hv.writeback ..)
  | stm2 =>
    exact .runIf hs fun h => (h.mode4 ..).bind fun _ _ hx =>
      .checked (.checked ((hx.storeEach ..).bind fun _ _ hv => hv))
  -- branches and exceptions
  | b | tBCond => exact .runIf hs fun h => h.branchWritePc _
  | bl => exact .runIf hs fun h => (h.setReg ..).branchWritePc _
  | blxImm | tBlxSuffix => exact .run fun h => (h.setReg ..).jumpTo _
  | bx => exact .runIf hs fun h => .shouldBe (h.bxWritePc _)
  | bxj => exact .runIf hs fun h => .shouldBe (.checked (h.bxWritePc _))
  | blxReg => exact .runIf hs fun h => .shouldBe (.checked ((h.setReg ..).bxWritePc _))
  | bkpt => exact .runIf hs fun h => .checked (h.raise _)
  | swi | ldcPre | ldcPost | ldcUnindexed | stcPre | stcPost | stcUnindexed | mcrr | mrrc | cdp | undefMulSpace01
  | undefSwapSpaceA | undefSwapSpaceB | undefSwapSpaceC | undefMisc0001 | undefMisc0010A | undefMisc0010B
  | undefMisc0011A | undefMisc0011B | undefMisc0100 | undefMisc0110 | undefMisc0111A | undefMisc0111B
  | undefMsrImmSpace | undefLsRegBit4 | undefCpLsSpace => exact .runIf hs fun h => h.raise _
  | tSwi | tBkpt | tUndefB1 | tUndefB2B3 | tUndefB6B7 | tUndefB8Bb | tUndefBf | tUndefCondE | tUndefBlxOdd =>
    exact .run fun h => h.raise _
  -- the system-control coprocessor
  | mcr => exact .runIf hs fun h => h.cp15Access _ (.checked (h.cp15Write _ _))
  | mrc =>
    refine .runIf hs fun h => h.cp15Access _ ?_
    dsimp only
    split
    · exact h.setFlags _
    · exact h.setReg ..
  | pldImm | pldReg | cdp2 | mcr2 | mrc2 | ldc2 | stc2 | nvSkipped => exact .skipped hs
  -- Thumb data processing
  | tLslImm | tLsrImm | tAsrImm | tAddReg | tSubReg | tAddImm3 | tSubImm3 | tAddImm8 | tSubImm8 | tAdc | tSbc | tNeg
  | tMovImm | tAnd | tEor | tOrr | tBic | tMvn | tLslReg | tLsrReg | tAsrReg | tRor =>
    exact .run fun h => h.setRegFlags ..
  | tCmpImm | tCmpReg | tCmn | tTst => exact .run fun h => h.setFlags _
  | tMul => exact .run fun h => .checked (h.setRegFlags ..)
  | tAddHi | tMovHi => exact .run fun h => .checked (h.hiWrite ..)
  | tCmpHi => exact .run fun h => .checked (h.setFlags _)
  | tBx => exact .run fun h => .shouldBe (h.bxWritePc _)
  | tBlxReg => exact .run fun h => .shouldBe (.checked ((h.setReg ..).bxWritePc _))
  | tAddPc | tAddSp | tAddSpImm | tSubSpImm | tBlPrefix => exact .run fun h => h.setReg ..
  | tB => exact .run fun h => h.branchWritePc _
  | tBlSuffix => exact .run fun h => (h.setReg ..).branchWritePc _
  -- Thumb loads and stores
  | tLdrPc | tLdrReg | tLdrImm | tLdrSp => exact .run fun h => h.loadOf .word ..
  | tStrReg | tStrImm | tStrSp => exact .run fun h => h.storeOf .word ..
  | tStrhReg | tStrhImm => exact .run fun h => h.storeOf .half ..
  | tStrbReg | tStrbImm => exact .run fun h => h.storeOf .byte ..
  | tLdrsbReg => exact .run fun h => h.loadOf .signedByte ..
  | tLdrhReg | tLdrhImm => exact .run fun h => h.loadOf .half ..
  | tLdrbReg | tLdrbImm => exact .run fun h => h.loadOf .byte ..
  | tLdrshReg => exact .run fun h => h.loadOf .signedHalf ..
  | tPush => exact .run fun h => .checked ((h.storeEach ..).bind fun _ _ hv => hv.setReg ..)
  | tPop =>
    refine .run fun h => .checked ((h.loadEach Ticks.setReg ..).bind fun _ _ hv => ?_)
    split
    · exact (hv.load ..).bind fun _ _ hw => (hw.setReg ..).bxWritePc _
    · exact hv.setReg ..
  | tStmia => exact .run fun h => .checked (.checked ((h.storeEach ..).bind fun _ _ hv => hv.setReg ..))
  | tLdmia => exact .run fun h => .checked ((h.loadEach Ticks.setReg ..).bind fun _ _ hv => hv.writeback ..)

end Sys2Proof.Machine
end

section
/-! PROOFS. Bursts and the frame driver (spec/40_pipeline.md R430-R434; spec/60_exceptions.md R1213, R1220, R1221):
O10. -/

namespace Sys2Proof.Machine

open Sys2Proof Sys2Proof.Claims

/-! ### One iteration (R420, R430) -/

/-- Every fetch costs at least one cycle (R230, R241, R245). -/
theorem fetchCode_cost (s : State) (a : Word) (n : Width) (q : Bool) : 0 < (fetchCode s a n q).2.codeCycles := by
  have hcode : 0 < Config.codeCost a n.bytes q := le_max_left 1 _
  have hlookup : 0 < (cacheLookup s a n.bytes).2.1 := by
    unfold cacheLookup
    split
    · exact Nat.one_pos
    · exact le_max_left 1 _
  unfold fetchCode
  split
  · exact hlookup
  · exact hcode

/-- The fetch of a step moves no time, and its cost is noted (R420, R421). -/
theorem stepFetch_ticks (b : State) : Ticks b (stepFetch b).2 ∧ 0 < (stepFetch b).2.codeCycles := by
  have fetch : ∀ (d : Nat) (o : Option (Word × Half)) (n : Width),
      let t := (fetchCode { shifted b with draws := d, thumbStale := o } (nextFetch b) n true).2
      Ticks b t ∧ 0 < t.codeCycles := fun d o n =>
    have hs : Ticks b { shifted b with draws := d, thumbStale := o } := ⟨⟨rfl, rfl⟩, rfl, le_refl _⟩
    ⟨hs.trans (fetchCode_fetch _ _ _ _).ticks, fetchCode_cost _ _ _ _⟩
  unfold stepFetch
  split
  · rcases fetchThumbNext_cases (shifted b) (nextFetch b) with ⟨h, -⟩ | h | ⟨old, -, h⟩
    · rw [h]; exact fetch _ _ _
    · rw [h]; exact fetch _ _ _
    · rw [h]; exact fetch _ _ _
  · exact fetch _ _ _

theorem advance_ticks (b : State) : Ticks b (advance b) ∧ 0 < (advance b).codeCycles := by
  obtain ⟨h, hc⟩ := stepFetch_ticks b
  rw [advance_eq]
  exact ⟨h.update rfl rfl rfl rfl, hc⟩

theorem noteThumbStore_ticks (s t : State) : Ticks t (noteThumbStore s t) := by
  unfold noteThumbStore
  split
  · dsimp only
    split
    · split
      · exact .refl t
      · exact (Ticks.refl t).update rfl rfl rfl rfl
    · exact .refl t
  · exact .refl t

theorem stepInstr_ticks (s : State) : OutTicks s (stepInstr s) := by
  obtain ⟨ha, hc⟩ := advance_ticks s
  have hx := exec_ticks (curDecoded (advance s)) hc
  unfold stepInstr
  cases he : exec (curDecoded (advance s)) (advance s) with
  | next t =>
    rw [he] at hx
    obtain ⟨ht, hlt⟩ := hx
    have hn := noteThumbStore_ticks (advance s) t
    exact ⟨(ha.trans ht).trans hn, ha.cycles.trans_lt (hlt.trans_le hn.cycles)⟩
  | fault f => trivial
  | refused r => rw [he] at hx; exact hx

/-- Time has not fallen, and the frame counter and the parameters are unchanged. -/
structure Later (s t : State) : Prop extends FrameKept s t where
  now : s.now ≤ t.now

theorem Later.refl (s : State) : Later s s := ⟨.refl s, le_refl _⟩

theorem Later.trans {s t u : State} (h : Later s t) (g : Later t u) : Later s u :=
  ⟨h.toFrameKept.trans g.toFrameKept, h.now.trans g.now⟩

theorem Ticks.later {s t : State} (h : Ticks s t) : Later s t := ⟨h.toFrameKept, h.now.ge⟩

theorem dispatchIrq_ticks (s : State) : Ticks s (dispatchIrq s) :=
  Ticks.update (Ticks.enterException (.refl s) .irq (reg s 15#4 - (instrWidth s).size + 4#32)) rfl rfl rfl rfl

/-- The time advance of an iteration: the cycles counted (R430). -/
theorem endIteration_later (t : State) : Later t (endIteration t) ∧ t.now + t.cycles ≤ (endIteration t).now := by
  have hu : Ticks t (if t.irqLine && !flagI t then dispatchIrq t else t) := by
    split
    · exact dispatchIrq_ticks t
    · exact .refl t
  unfold endIteration
  generalize (if t.irqLine && !flagI t then dispatchIrq t else t) = u at hu ⊢
  have hnow : t.now + t.cycles ≤ u.now + u.cycles := Nat.add_le_add hu.now.ge hu.cycles
  exact ⟨⟨⟨hu.frameCount, hu.params⟩, (Nat.le_add_right _ _).trans hnow⟩, hnow⟩

/-- What an iteration can do (R430, R432): it moves time, or its step has set a halt level, or it faults. -/
theorem iteration_cases (s : State) :
    (∃ t, iteration s = .next (false, t) ∧ Later s t ∧ s.now < t.now) ∨
    (∃ t, iteration s = .next (true, t) ∧ Later s t ∧ t.halt ≠ .none) ∨
    ∃ f, iteration s = .fault f := by
  have hs := stepInstr_ticks s
  unfold iteration
  cases he : stepInstr s with
  | next t =>
    rw [he] at hs
    obtain ⟨ht, hlt⟩ := hs
    dsimp only
    split
    · obtain ⟨hl, hnow⟩ := endIteration_later t
      have := ht.now
      exact .inl ⟨_, rfl, ht.later.trans hl, by omega⟩
    next hh => exact .inr (.inl ⟨t, rfl, ht.later, hh⟩)
  | fault f => exact .inr (.inr ⟨f, rfl⟩)
  | refused r => rw [he] at hs; exact hs.elim

/-! ### The burst (R430-R432) -/

theorem waitUntil_later (s : State) (target : Nat) : Later s (waitUntil s target) := ⟨⟨rfl, rfl⟩, le_max_left _ _⟩

/-- The burst is over: it has reached its target, or a single-shot halt or a fault has ended it. -/
def BurstOver (t : State) (target : Nat) : Prop :=
  t.faulted = none → target ≤ t.now ∨ t.halt = .singleShot

/-- The loop of a burst ends, since every iteration moves time. -/
theorem executeLoop_over (n : Nat) {s : State} {target : Nat} (hn : target ≤ s.now + n) :
    Later s (executeLoop n s target) ∧ BurstOver (executeLoop n s target) target := by
  induction n generalizing s with
  | zero => exact ⟨.refl s, fun _ => .inl hn⟩
  | succ n ih =>
    rw [executeLoop]
    split
    · rcases iteration_cases s with ⟨t, h, hl, hlt⟩ | ⟨t, h, hl, hh⟩ | ⟨f, h⟩
      · rw [h]
        obtain ⟨hl', ho⟩ := ih (s := t) (by omega)
        exact ⟨hl.trans hl', ho⟩
      · rw [h]
        dsimp only
        split
        · exact ⟨hl.trans (waitUntil_later t target), fun _ => .inl (le_max_right _ _)⟩
        next hi =>
          have hshot : t.halt = .singleShot := by
            cases hx : t.halt with
            | none => exact absurd hx hh
            | indefinite => exact absurd hx hi
            | singleShot => rfl
          exact ⟨hl, fun _ => .inr hshot⟩
      · rw [h]
        exact ⟨⟨⟨rfl, rfl⟩, le_refl _⟩, nofun⟩
    next hlt => exact ⟨.refl s, fun _ => .inl (not_lt.1 hlt)⟩

theorem burstStart_later {s t : State} (h : burstStart s = some t) : Later s t := by
  have hwake : Ticks s { s with halt := .none } := ⟨⟨rfl, rfl⟩, rfl, le_refl _⟩
  unfold burstStart at h
  split at h
  · cases h; exact .refl s
  · cases h; exact hwake.later
  · split at h
    · cases h
      split
      · exact hwake.later
      · exact (hwake.trans (dispatchIrq_ticks _)).later
    · cases h

theorem execute_over (s : State) (target : Nat) :
    Later s (execute s target) ∧ BurstOver (execute s target) target := by
  unfold execute
  split
  next f hf => exact ⟨.refl s, fun h => by rw [hf] at h; cases h⟩
  next =>
    split
    next => exact ⟨waitUntil_later s target, fun _ => .inl (le_max_right _ _)⟩
    next t ht =>
      obtain ⟨hl, ho⟩ := executeLoop_over (target - t.now) (s := t) (target := target) (by omega)
      exact ⟨(burstStart_later ht).trans hl, ho⟩

/-! ### The timers (R1220, R1250) -/

theorem updateIrq_record (s : State) : (updateIrq s).halt = s.halt ∧ (updateIrq s).activity = s.activity := by
  unfold updateIrq
  split
  · exact ⟨rfl, rfl⟩
  · split <;> exact ⟨rfl, rfl⟩

theorem setIrq_record (s : State) (l : Nat) : (setIrq s l).halt = s.halt ∧ (setIrq s l).activity = s.activity := by
  unfold setIrq
  split
  · split
    · exact ⟨rfl, rfl⟩
    · exact updateIrq_record _
  · exact ⟨rfl, rfl⟩

theorem scheduleEvent_record (s : State) (id : Nat) (k : EventKind) (d cb : Nat) (p : Word) :
    (scheduleEvent s id k d cb p).halt = s.halt ∧ (scheduleEvent s id k d cb p).activity = s.activity := by
  unfold scheduleEvent
  split
  · exact ⟨rfl, rfl⟩
  · split <;> exact ⟨rfl, rfl⟩

/-- The calls the timers may make set no halt level and are recorded once, by the advance that makes them. -/
theorem runCalls_timers (s : State) {l : List Call} (h : ∀ c ∈ l, timerMay c = true) :
    (runCalls s l).halt = s.halt ∧ (runCalls s l).activity = s.activity := by
  induction l generalizing s with
  | nil => exact ⟨rfl, rfl⟩
  | cons c r ih =>
    have hc : (runCall s c).halt = s.halt ∧ (runCall s c).activity = s.activity := by
      cases c with
      | irq l => exact setIrq_record s l
      | sched id k d cb p => exact scheduleEvent_record s id k d cb p
      | cancel id => exact ⟨rfl, rfl⟩
      | ack | ctl | halt1 => exact absurd (h _ List.mem_cons_self) nofun
    obtain ⟨hh, ha⟩ := ih (runCall s c) fun x hx => h x (List.mem_cons_of_mem c hx)
    exact ⟨hh.trans hc.1, ha.trans hc.2⟩

/-- The state in which an advance of the timers makes its calls: its script taken, the advance recorded (R1220). -/
def timersTold (s : State) (delta : Nat) : State :=
  { s with
    inputs := { s.inputs with timers := s.inputs.timers.tail }
    activity := s.activity ++ [.timers delta ((s.inputs.timers.headD []).filter timerMay)] }

theorem advanceTimers_eq (s : State) (delta : Nat) :
    advanceTimers s delta = runCalls (timersTold s delta) ((s.inputs.timers.headD []).filter timerMay) := rfl

theorem advanceTimers_ticks (s : State) (delta : Nat) : Ticks s (advanceTimers s delta) :=
  Ticks.trans (t := timersTold s delta) ⟨⟨rfl, rfl⟩, rfl, le_refl _⟩ (runCalls_keeps _ _).ticks

/-! ### The frame driver (R1213, R1220) -/

theorem runCallbackAction_kept (s : State) (x : CallbackAction) : FrameKept s (runCallbackAction s x) := by
  cases x with
  | call c => exact (runCall_keeps s c).ticks.toFrameKept
  | read a n => exact ((Ticks.refl s).busRead a n.bytes).toFrameKept
  | write a n v => exact ((Ticks.refl s).busWrite a n.bytes v).toFrameKept

theorem FrameKept.foldl {α : Type} {f : State → α → State} (hf : ∀ s x, FrameKept s (f s x)) (l : List α) (s : State) :
    FrameKept s (l.foldl f s) := by
  induction l generalizing s with
  | nil => exact .refl s
  | cons x r ih => exact (hf s x).trans (ih _)

theorem fireEvent_kept (start : List Nat) (time : Nat) (s : State) (id : Nat) :
    FrameKept s (fireEvent start time s id) := by
  unfold fireEvent
  split
  · split
    · refine .trans ?_ (.foldl runCallbackAction_kept _ _)
      exact ⟨rfl, rfl⟩
    · exact .refl s
  · exact .refl s

/-- A pass changes neither the time nor the frame (R1213). -/
theorem runSystem_later (s : State) (time : Nat) : Later s (runSystem s time) := by
  obtain ⟨hf, hp⟩ := FrameKept.foldl (fireEvent_kept (pendingIds s) time) (slotIds s) (passStart s time)
  obtain ⟨-, -, hnow⟩ := runSystem_times s time
  rw [runSystem_eq] at hnow ⊢
  exact ⟨⟨hf, hp⟩, hnow.ge⟩

/-- An iteration of the frame driver whose burst meets no fault (R1220). -/
theorem frameBody_eq {s : State} (h : (execute s (nextWakeTime s)).faulted = none) :
    frameBody s = runSystem
      (advanceTimers (execute s (nextWakeTime s)) ((execute s (nextWakeTime s)).now - s.now))
      (execute s (nextWakeTime s)).now := by
  rw [frameBody, h]

theorem frameBody_later (s : State) : Later s (frameBody s) := by
  obtain ⟨hl, -⟩ := execute_over s (nextWakeTime s)
  cases hf : (execute s (nextWakeTime s)).faulted with
  | none =>
    rw [frameBody_eq hf]
    exact (hl.trans (advanceTimers_ticks _ _).later).trans (runSystem_later _ _)
  | some f =>
    rw [frameBody, hf]
    exact hl

/-- The loop of a frame ends past its budget, or with a fault (R1220). -/
theorem frameLoop_ends {n start : Nat} {s t : State} (h : frameLoop n start s = some t) (hf : t.faulted = none) :
    FrameKept s t ∧ start + s.params.frameCycles < t.now := by
  induction n generalizing s with
  | zero => cases h
  | succ n ih =>
    have hb := frameBody_later s
    rw [frameLoop] at h
    split at h
    next he =>
      cases h
      rw [hf, Option.isSome_none, Bool.false_or, decide_eq_true_iff] at he
      exact ⟨hb.toFrameKept, he⟩
    next =>
      obtain ⟨hk, hlt⟩ := ih h
      rw [hb.params] at hlt
      exact ⟨hb.toFrameKept.trans hk, hlt⟩

/-- A frame that ends with no fault is one more frame, past its budget (R1220). -/
theorem runFrame_ends {fuel : Nat} {s t : State} (hs : s.faulted = none) (h : runFrame fuel s = some t)
    (hf : t.faulted = none) : t.frameCount = s.frameCount + 1 ∧ s.now + s.params.frameCycles < t.now ∧
      t.lagFrame = Config.lagFrame t.activity := by
  simp only [runFrame, hs] at h
  obtain ⟨u, hu, rfl⟩ := Option.map_eq_some_iff.1 h
  cases hfu : u.faulted with
  | some f =>
    rw [hfu] at hf
    exact absurd (hfu.symm.trans hf) nofun
  | none =>
    obtain ⟨hk, hlt⟩ := frameLoop_ends hu hfu
    exact ⟨congrArg (· + 1) hk.frameCount, hlt, rfl⟩

/-- Settles O10: an iteration of the burst loop moves time, and a frame ends past its budget. -/
theorem burstReachesTarget : Obligations.BurstReachesTarget := by
  intro s hs
  refine ⟨fun target => ?_, ?_, fun delta => ?_, fun fuel t h hf => ?_⟩
  · obtain ⟨hl, ho⟩ := execute_over s target
    exact ⟨hl.now, ho, fun hh hi => execute_waits hs hh hi target⟩
  · rintro u rfl hu
    exact frameBody_eq hu
  · have hk := runCalls_keeps (timersTold s delta) ((s.inputs.timers.headD []).filter timerMay)
    obtain ⟨hh, ha⟩ := runCalls_timers (timersTold s delta) (l := (s.inputs.timers.headD []).filter timerMay)
      fun c hc => (List.mem_filter.1 hc).2
    rw [advanceTimers_eq]
    exact ⟨ha, hk.now, hk.regs, hk.cpsr, hk.mem, hh⟩
  · obtain ⟨hcount, hlt, hlag⟩ := runFrame_ends hs h hf
    refine ⟨hcount, hlt, fun hidle => ?_⟩
    rw [hlag, Config.lagFrame, List.all_eq_true.2 hidle, Bool.true_or]

end Sys2Proof.Machine
end

section
/-! PROOFS. The barrel shifter: shifts by an immediate and by a register (spec/41_arm_dataproc.md R501-R510): O14 and
O15. -/

namespace Sys2Proof.Machine

open Sys2Proof Sys2Proof.Claims

/-! ### The shifts of a word (R12) -/

theorem toNat_shiftLeft_word (v : Word) (n : Nat) : (v <<< n).toNat = v.toNat * 2 ^ n % 2 ^ 32 := by
  rw [BitVec.toNat_shiftLeft, Nat.shiftLeft_eq]

theorem toNat_ushiftRight_word (v : Word) (n : Nat) : (v >>> n).toNat = v.toNat / 2 ^ n := by
  rw [BitVec.toNat_ushiftRight, Nat.shiftRight_eq_div_pow]

theorem toInt_asr (v : Word) (n : Nat) : (asr v n).toInt = v.toInt / 2 ^ n := by
  rw [asr, BitVec.toInt_sshiftRight, Int.shiftRight_eq_div_pow, Nat.cast_pow, Nat.cast_ofNat]

/-- An arithmetic shift by the whole width leaves the sign alone (R505). -/
theorem asr_width (v : Word) : asr v 32 = if v.getLsbD 31 then 0xFFFFFFFF#32 else 0#32 := by
  apply BitVec.eq_of_getLsbD_eq
  intro i hi
  have ones : (0xFFFFFFFF#32).getLsbD i = true := by interval_cases i <;> rfl
  rw [asr, BitVec.getLsbD_sshiftRight, if_neg (by omega), BitVec.msb_eq_getLsbD_last, decide_eq_false (by omega)]
  cases v.getLsbD 31 <;> simp [ones]

theorem getLsbD_ror (v : Word) (n : Nat) {i : Nat} (hi : i < 32) : (ror v n).getLsbD i = v.getLsbD ((i + n) % 32) := by
  rw [ror, BitVec.getLsbD_rotateRight, Nat.mod_mod, Bool.cond_decide]
  split
  next h => rw [show (i + n) % 32 = n % 32 + i by omega]
  next h => rw [decide_eq_true hi, Bool.true_and, show (i + n) % 32 = i - (32 - n % 32) by omega]

/-- RRX: the carry flag comes in at the top (R506). -/
theorem rrx_eq_append (v : Word) (c : Bool) : setBit (v >>> 1) 31 c = BitVec.ofBool c ++ v.extractLsb' 1 31 := by
  apply BitVec.eq_of_getLsbD_eq
  intro i hi
  rw [getLsbD_setBit, BitVec.getLsbD_append, BitVec.getLsbD_ushiftRight, BitVec.getLsbD_extractLsb']
  by_cases h : i = 31
  · subst h
    cases c <;> rfl
  · rw [if_neg (by omega), if_pos (by omega), decide_eq_true (by omega), Bool.true_and]

/-! ### The shifter's output for each type -/

section Shifter
variable {v : Word} {n : Nat} {c : Bool}

/-- The amounts that both encodings can name are shifted by one rule (R503-R510). -/
theorem shiftByImm_eq_shiftByReg (st : BitVec 2) (v : Word) {n : BitVec 5} (c : Bool) (h : n ≠ 0#5) :
    shiftByImm st v n c = shiftByReg st v n.toNat c := by
  have h0 : n.toNat ≠ 0 := fun e => h (BitVec.eq_of_toNat_eq e)
  have hlt : n.toNat < 32 := n.isLt
  simp only [shiftByImm, shiftByReg, h0, hlt, Nat.mod_eq_of_lt hlt, if_true, if_false]

theorem shiftByReg_lsl (h1 : 1 ≤ n) (h2 : n ≤ 31) :
    shiftByReg 0b00#2 v n c = { value := v <<< n, carry := v.getLsbD (32 - n) } := by
  rw [shiftByReg, if_neg (by omega), if_pos rfl, if_pos (by omega)]

theorem shiftByReg_lsr (h1 : 1 ≤ n) (h2 : n ≤ 31) :
    shiftByReg 0b01#2 v n c = { value := v >>> n, carry := v.getLsbD (n - 1) } := by
  rw [shiftByReg, if_neg (by omega), if_neg (by decide), if_pos rfl, if_pos (by omega)]

theorem shiftByReg_asr (h1 : 1 ≤ n) (h2 : n ≤ 31) :
    shiftByReg 0b10#2 v n c = { value := asr v n, carry := v.getLsbD (n - 1) } := by
  rw [shiftByReg, if_neg (by omega), if_neg (by decide), if_neg (by decide), if_pos rfl, if_pos (by omega)]

theorem shiftByReg_ror (h : n % 32 ≠ 0) :
    shiftByReg 0b11#2 v n c = { value := ror v (n % 32), carry := v.getLsbD (n % 32 - 1) } := by
  rw [shiftByReg, if_neg (by omega), if_neg (by decide), if_neg (by decide), if_neg (by decide), if_neg h]

/-- Past the width the logical shifts leave nothing, and the last bit out is the word's where the amount is the width
(R507, R508). -/
theorem shiftByReg_lsl_out (h : 32 ≤ n) :
    shiftByReg 0b00#2 v n c = { value := 0#32, carry := n == 32 && v.getLsbD 0 } := by
  rw [shiftByReg, if_neg (by omega), if_pos rfl, if_neg (by omega)]

theorem shiftByReg_lsr_out (h : 32 ≤ n) :
    shiftByReg 0b01#2 v n c = { value := 0#32, carry := n == 32 && v.getLsbD 31 } := by
  rw [shiftByReg, if_neg (by omega), if_neg (by decide), if_pos rfl, if_neg (by omega)]

/-- From the width on ASR leaves the sign (R509). -/
theorem shiftByReg_asr_out (h : 32 ≤ n) : shiftByReg 0b10#2 v n c =
    { value := if v.getLsbD 31 then 0xFFFFFFFF#32 else 0#32, carry := v.getLsbD 31 } := by
  rw [shiftByReg, if_neg (by omega), if_neg (by decide), if_neg (by decide), if_pos rfl, if_neg (by omega), asr_width]

/-- A rotation by a multiple of the width turns nothing (R510). -/
theorem shiftByReg_ror_whole (h1 : 1 ≤ n) (h : n % 32 = 0) :
    shiftByReg 0b11#2 v n c = { value := v, carry := v.getLsbD 31 } := by
  rw [shiftByReg, if_neg (by omega), if_neg (by decide), if_neg (by decide), if_neg (by decide), if_pos h]

/-! ### What the outputs are (R503-R510) -/

theorem lsl_result (h1 : 1 ≤ n) (h2 : n ≤ 31) :
    (shiftByReg 0b00#2 v n c).value.toNat = v.toNat * 2 ^ n % 2 ^ 32 ∧
      (shiftByReg 0b00#2 v n c).carry = v.getLsbD (32 - n) := by
  rw [shiftByReg_lsl h1 h2]
  exact ⟨toNat_shiftLeft_word v n, rfl⟩

theorem lsr_result (h1 : 1 ≤ n) (h2 : n ≤ 31) : (shiftByReg 0b01#2 v n c).value.toNat = v.toNat / 2 ^ n ∧
    (shiftByReg 0b01#2 v n c).carry = v.getLsbD (n - 1) := by
  rw [shiftByReg_lsr h1 h2]
  exact ⟨toNat_ushiftRight_word v n, rfl⟩

theorem asr_result (h1 : 1 ≤ n) (h2 : n ≤ 31) : (shiftByReg 0b10#2 v n c).value.toInt = v.toInt / 2 ^ n ∧
    (shiftByReg 0b10#2 v n c).carry = v.getLsbD (n - 1) := by
  rw [shiftByReg_asr h1 h2]
  exact ⟨toInt_asr v n, rfl⟩

theorem ror_result (h : n % 32 ≠ 0) :
    (∀ i, i < 32 → (shiftByReg 0b11#2 v n c).value.getLsbD i = v.getLsbD ((i + n % 32) % 32)) ∧
      (shiftByReg 0b11#2 v n c).carry = v.getLsbD (n % 32 - 1) := by
  rw [shiftByReg_ror h]
  exact ⟨fun i hi => getLsbD_ror v _ hi, rfl⟩

end Shifter

/-- The rotated immediate, bit by bit (R501). -/
theorem getLsbD_rotatedImm (rot : BitVec 4) (imm : BitVec 8) {i : Nat} (hi : i < 32) :
    (rotatedImm rot imm).getLsbD i = imm.getLsbD ((i + 2 * rot.toNat) % 32) := by
  rw [rotatedImm, getLsbD_ror _ _ hi, BitVec.getLsbD_setWidth, decide_eq_true (Nat.mod_lt _ (by decide)), Bool.true_and]

/-- Settles O14: an amount of 0 by its own rule, and every other as the register shift by that amount. -/
theorem shifterByImmediate : Obligations.ShifterByImmediate := by
  intro s v n c
  have amount : n ≠ 0#5 → 1 ≤ n.toNat ∧ n.toNat ≤ 31 := fun h =>
    ⟨Nat.one_le_iff_ne_zero.2 fun e => h (BitVec.eq_of_toNat_eq e), Nat.le_of_lt_succ n.isLt⟩
  refine ⟨rfl, fun h => ?_, rfl, fun h => ?_, ?_, fun h => ?_, ?_, fun h => ?_, fun st rm => rfl, fun rot imm =>
    ⟨fun i hi => getLsbD_rotatedImm rot imm hi, rfl⟩⟩
  · rw [shiftByImm_eq_shiftByReg _ v c h]
    exact lsl_result (amount h).1 (amount h).2
  · rw [shiftByImm_eq_shiftByReg _ v c h]
    exact lsr_result (amount h).1 (amount h).2
  · rw [← asr_width]
    rfl
  · rw [shiftByImm_eq_shiftByReg _ v c h]
    exact asr_result (amount h).1 (amount h).2
  · rw [← rrx_eq_append]
    rfl
  · have hmod : n.toNat % 32 = n.toNat := Nat.mod_eq_of_lt n.isLt
    rw [shiftByImm_eq_shiftByReg _ v c h]
    have hr := ror_result (v := v) (n := n.toNat) (c := c) (by have := amount h; omega)
    rwa [hmod] at hr

/-- Settles O15, by the type of the shift and the range of the amount. -/
theorem shifterByRegister : Obligations.ShifterByRegister := by
  intro s v n c
  refine ⟨fun st => rfl, lsl_result, shiftByReg_lsl_out le_rfl, lsr_result, shiftByReg_lsr_out le_rfl, fun h => ?_,
    asr_result, shiftByReg_asr_out, shiftByReg_ror_whole, ror_result, fun st rs rm => ?_⟩
  · have hn : (n == 32) = false := beq_false_of_ne (by omega)
    rw [shiftByReg_lsl_out h.le, shiftByReg_lsr_out h.le, hn]
    exact ⟨rfl, rfl⟩
  · rw [regShiftedReg, BitVec.toNat_setWidth]

end Sys2Proof.Machine
end

section
/-! PROOFS. The results and flags of data processing (spec/41_arm_dataproc.md R512, R513, R520-R535): O16. -/

namespace Sys2Proof.Machine

open Sys2Proof Sys2Proof.Claims

/-! ### The carry and the overflow of the sixteen functions (R13) -/

section Alu
variable (op : DpOp) (a b : Word) (o : ShiftOut) (c : Bool)

/-- A difference carries where it does not borrow (R13). -/
theorem carry_of_difference :
    (addWithCarry a (~~~b) c).carry = decide (b.toNat + (if c then 0 else 1) ≤ a.toNat) := by
  have hb := b.isLt
  rw [addWithCarry_carry, toNat_not_word, decide_eq_decide]
  cases c <;> simp <;> omega

/-- A sum overflows where the exact signed sum does not fit (R13). -/
theorem overflow_of_sum {a b : Word} {c : Bool} {e : Int} (he : e = a.toInt + b.toInt + c.toNat) :
    (addWithCarry a b c).overflow = decide (e < -(2 ^ 31) ∨ 2 ^ 31 ≤ e) := by rw [addWithCarry_overflow, he]

/-- A difference overflows where the exact signed difference does not fit (R13). -/
theorem overflow_of_difference {a b : Word} {c : Bool} {e : Int}
    (he : e = a.toInt - b.toInt - (if c then 0 else 1)) :
    (addWithCarry a (~~~b) c).overflow = decide (e < -(2 ^ 31) ∨ 2 ^ 31 ≤ e) := by
  refine overflow_of_sum ?_
  rw [he, toInt_not_word]
  cases c <;> simp <;> omega

/-- The carry of each of the sixteen functions: of its sum or difference, or the shifter's (R512). -/
theorem dpAlu_carry : (dpAlu op a o c).carry = dpCarryOut op a o.value c o.carry := by
  cases op with
  | sub | cmp | rsb | sbc | rsc => exact carry_of_difference ..
  | add | cmn => exact addWithCarry_carry ..
  | adc => cases c <;> exact addWithCarry_carry ..
  | and | eor | tst | teq | orr | mov | bic | mvn => rfl

/-- The overflow of each arithmetic function: its exact result does not fit (R512). -/
theorem dpAlu_overflow (h : dpArithmetic op = true) :
    (dpAlu op a o c).overflow = dpOverflowOut op a o.value c := by
  cases op with
  | sub | cmp | rsb => exact overflow_of_difference (c := true) (Int.sub_zero _).symm
  | sbc | rsc => exact overflow_of_difference rfl
  | add | cmn => exact overflow_of_sum (c := false) (Int.add_zero _).symm
  | adc => exact overflow_of_sum (by cases c <;> rfl)
  | and | eor | tst | teq | orr | mov | bic | mvn => cases h

end Alu

/-! ### The flags (R512) -/

section Flags
variable {op : DpOp} (w : Word) (r : AluOut)

theorem getLsbD_dpFlags (op : DpOp) (i : Nat) : (dpFlags op w r).getLsbD i =
    if dpArithmetic op = true ∧ i = 28 then r.overflow
    else if i = 29 then r.carry
    else if i = 30 then r.value == 0#32
    else if i = 31 then r.value.getLsbD 31
    else w.getLsbD i := by
  cases h : dpArithmetic op <;> simp [dpFlags, h, getLsbD_withNZCV, getLsbD_withNZC, getLsbD_withNZ]

/-- The flags a form does not write are kept (R512). -/
theorem getLsbD_dpFlags_kept {i : Nat} (hi : i ∉ dpBits op true) : (dpFlags op w r).getLsbD i = w.getLsbD i := by
  rw [getLsbD_dpFlags]
  cases h : dpArithmetic op <;> simp [dpBits, dpSets, h] at hi <;> simp [hi]

end Flags

/-! ### The state left (R512, R513) -/

/-- What a form that leaves the program counter alone does: the result in Rd, then the flags. -/
def dpState (op : DpOp) (sets : Bool) (rd : Reg) (r : AluOut) (s : State) : State :=
  let t := if dpWrites op then setReg s rd r.value else s
  if sets then setFlags t (dpFlags op t.cpsr r) else t

theorem dataProc_eq_dpState {op : DpOp} {rd : Reg} (h : dpWrites op = true → rd ≠ 15#4) (sets : Bool) (rn : Reg)
    (o : ShiftOut) (s : State) : dataProc op sets rn rd o s =
      .ok () (dpState op sets rd (dpAlu op (reg s rn) o (flagC s)) s) := by
  have hpc : (dpWrites op && rd == 15#4) = false := by
    cases hw : dpWrites op with
    | false => rfl
    | true => exact beq_false_of_ne (h hw)
  rw [dataProc, hpc]
  rfl

section DpState
variable {op : DpOp} {rd : Reg} {r : AluOut} {s t : State}

theorem dpState_frame {sf : Bool} (h : Frame (if dpWrites op then [rd] else []) (dpBits op sf) [] s t) :
    Frame (if dpWrites op then [rd] else []) (dpBits op sf) [] s (dpState op (dpSets op sf) rd r t) := by
  have hres : Frame (if dpWrites op then [rd] else []) (dpBits op sf) [] s
      (if dpWrites op then setReg t rd r.value else t) := by
    cases hw : dpWrites op with
    | false => simpa [hw] using h
    | true =>
      rw [hw] at h
      exact h.setReg _ List.mem_cons_self
  unfold dpState
  cases hs : dpSets op sf with
  | false => exact hres
  | true =>
    refine hres.setFlags fun i hi => getLsbD_dpFlags_kept _ _ ?_
    simpa [dpBits, hs, show dpSets op true = true from rfl] using hi

theorem reg_dpState (hw : dpWrites op = true) (sets : Bool) : reg (dpState op sets rd r t) rd = r.value := by
  rw [dpState, hw]
  cases sets <;> exact reg_setReg_same t rd r.value

theorem getLsbD_dpState (i : Nat) : (dpState op true rd r t).cpsr.getLsbD i = (dpFlags op t.cpsr r).getLsbD i := by
  rw [dpState]
  cases dpWrites op <;> rfl

end DpState

/-- Settles O16: each legal form is the one operation on its shifter's output, whose value, carry and overflow are those
of the function. -/
theorem dataProcessingResult : Obligations.DataProcessingResult := by
  intro s op cond sf rn rd o hc hz hl hd
  dsimp only
  have hx : exec (dpInstr op cond sf rn rd o) s = finish s
      (.ok () (dpState op (dpSets op sf) rd (dpAlu op (reg s rn) (operandOut s o) (flagC s)) (begun s))) := by
    rw [exec_dpInstr cond sf hz, runIf_pass _ hc, run, dpBody_legal _ hl, operandOut_begun, dataProc_eq_dpState hd]
    rfl
  rw [← dpAlu_value op (reg s rn) (operandOut s o), ← dpAlu_carry]
  refine completes_finish hx rfl ⟨(dpState_frame (Frame.begun s)).charged s, fun hw => reg_dpState hw _, fun hs => ?_⟩
  rw [hs]
  simp only [leavesNZ, flagN, flagZ, flagC, flagV, charged_cpsr, getLsbD_dpState, getLsbD_dpFlags]
  refine ⟨⟨by simp, by simp [beq_eq_decide]⟩, by simp, fun ha => ?_⟩
  rw [if_pos ⟨ha, trivial⟩]
  exact dpAlu_overflow op _ _ _ ha

end Sys2Proof.Machine
end

section
/-! PROOFS. MRS and MSR (spec/41_arm_dataproc.md R540-R542, spec/10_state.md R112, R114): O19 and O20. -/

namespace Sys2Proof.Machine

open Sys2Proof Sys2Proof.Claims

/-! ### The saved status of the current mode (R114, D58) -/

section SpsrBank
variable {s : State} (f : BankMode → Res Unit)

theorem withSpsrBank_some {b : BankMode} (h : bankOf (curMode s) = some b) : withSpsrBank s f = f b := by
  rw [withSpsrBank, h]

theorem withSpsrBank_none (h : bankOf (curMode s) = none) : withSpsrBank s f = .fault .spsrNoMode := by
  rw [withSpsrBank, h]

end SpsrBank

/-! ### MRS (R540) -/

/-- An MRS with its should-be fields, whose condition passes and whose destination is not the program counter. -/
theorem exec_mrs {s : State} {cond : BitVec 4} {rd : Reg} (hc : passes s cond) (hd : rd ≠ 15#4) (r : Bool) :
    exec (.mrs cond r 0xF#4 rd 0#4 0#4) s = finish s
      (if r then withSpsrBank (begun s) fun b => done (setReg (begun s) rd (bankSpsr (begun s) b))
        else done (setReg (begun s) rd (begun s).cpsr)) := by
  have hx : exec (.mrs cond r 0xF#4 rd 0#4 0#4) s = finish s (unpredictableIf (rd == 15#4) .mrsToPc
      (if r then withSpsrBank (begun s) fun b => done (setReg (begun s) rd (bankSpsr (begun s) b))
        else done (setReg (begun s) rd (begun s).cpsr))) := runIf_pass _ hc
  rw [hx, beq_false_of_ne hd, unpredictableIf_false]

/-- A register written and nothing else. -/
theorem completes_setReg {i : Instr} {s : State} {rd : Reg} {v : Word}
    (hx : exec i s = finish s (done (setReg (begun s) rd v))) :
    completes i s fun t => Frame [rd] [] [] s t ∧ reg t rd = v :=
  completes_finish hx rfl ⟨((Frame.begun s).setReg v List.mem_cons_self).charged s, reg_setReg_same (begun s) rd v⟩

theorem bankSpsr_begun (s : State) (b : BankMode) : bankSpsr (begun s) b = bankSpsr s b := by cases b <;> rfl

/-- Settles O19, by the register read. -/
theorem mrsReadsStatus : Obligations.MrsReadsStatus := by
  intro s cond rd hc hd
  have hcpsr := exec_mrs hc hd false
  have hspsr := exec_mrs hc hd true
  rw [if_pos rfl] at hspsr
  refine ⟨completes_setReg hcpsr, fun b hb => ?_, fun hb => ?_⟩
  · rw [withSpsrBank_some (s := begun s) _ hb, bankSpsr_begun] at hspsr
    exact completes_setReg hspsr
  · rw [hspsr, withSpsrBank_none (s := begun s) _ hb]
    rfl

/-! ### The fields an MSR writes (R541) -/

/-- The mask of a field selection is byte by byte. -/
theorem getLsbD_msrMask (f : BitVec 4) {i : Nat} (hi : i < 32) : (msrMask f).getLsbD i = f.getLsbD (i / 8) := by
  have masks : ∀ f : BitVec 4, ∀ i : Fin 32, (msrMask f).getLsbD i = f.getLsbD (i / 8) := by decide
  exact masks f ⟨i, hi⟩

/-- The mask an MSR to the status register uses (R541). -/
def cpsrMask (user : Bool) (f : BitVec 4) : Word := if user then msrMask f &&& 0xFF000000#32 else msrMask f

theorem getLsbD_cpsrMask (user : Bool) (f : BitVec 4) {i : Nat} (hi : i < 32) :
    (cpsrMask user f).getLsbD i = msrTakes user f i := by
  cases user with
  | false =>
    rw [cpsrMask, if_neg Bool.false_ne_true, getLsbD_msrMask f hi, msrTakes, Bool.not_false, Bool.true_or,
      Bool.and_true]
  | true =>
    have top : (0xFF000000#32).getLsbD i = decide (24 ≤ i) := by interval_cases i <;> rfl
    rw [cpsrMask, if_pos rfl, BitVec.getLsbD_and, getLsbD_msrMask f hi, top]
    rfl

theorem getLsbD_merged (old operand mask : Word) {i : Nat} (hi : i < 32) :
    (merged old operand mask).getLsbD i = if mask.getLsbD i then operand.getLsbD i else old.getLsbD i := by
  rw [merged, BitVec.getLsbD_or, BitVec.getLsbD_and, BitVec.getLsbD_and, BitVec.getLsbD_not, decide_eq_true hi]
  cases mask.getLsbD i <;> simp

/-- The bits that R541 lists determine the merged word. -/
theorem merged_cpsr_eq {old operand w : Word} {user : Bool} {f : BitVec 4}
    (h : ∀ i, i < 32 → w.getLsbD i = if msrTakes user f i then operand.getLsbD i else old.getLsbD i) :
    merged old operand (cpsrMask user f) = w := by
  apply BitVec.eq_of_getLsbD_eq
  intro i hi
  rw [getLsbD_merged _ _ _ hi, getLsbD_cpsrMask user f hi, h i hi]

/-! ### MSR (R541, R542) -/

/-- A legal MSR, of either source, writes its operand (R541, R542). -/
theorem exec_msrInstr {s : State} {cond : BitVec 4} {src : MsrSource} (hc : passes s cond) (h : msrLegal src = true)
    (r : Bool) (fm : BitVec 4) :
    exec (msrInstr cond r fm src) s = finish s (msrWrite (begun s) r fm (msrOperand s src)) := by
  cases src with
  | imm rot v =>
    have hx : exec (msrInstr cond r fm (.imm rot v)) s = finish s (msrWrite (begun s) r fm (rotatedImm rot v)) :=
      runIf_pass _ hc
    have hmod : 2 * rot.toNat % 32 = 2 * rot.toNat := Nat.mod_eq_of_lt (by have := rot.isLt; omega)
    rw [hx, rotatedImm, ror, hmod]
    rfl
  | reg rm =>
    have hx : exec (msrInstr cond r fm (.reg rm)) s =
      finish s (unpredictableIf (rm == 15#4) .msrFromPc (msrWrite (begun s) r fm (reg s rm))) := runIf_pass _ hc
    have hm : (rm == 15#4) = false := beq_false_of_ne (bne_iff_ne.1 h)
    rw [hx, hm, unpredictableIf_false]
    rfl

/-- An MSR to the status register checks the state bit, then the mode, and installs the word (R112, R541). -/
theorem msrWrite_cpsr {s : State} {fm : BitVec 4} {operand w : Word}
    (h : merged s.cpsr operand (cpsrMask (isUser s) fm) = w) : msrWrite s false fm operand =
      unpredictableIf (w.getLsbD 5 != flagT s) .msrChangesT
        (unpredictableIf (!validMode (modeOf w)) .badMode (.ok () (replaceCpsr s w))) := by
  subst h
  rfl

theorem SameBanks.trans {s t u : State} (h : SameBanks s t) (g : SameBanks t u) : SameBanks s u :=
  ⟨g.regs.trans h.regs, h.banks.trans g.banks⟩

/-- A status write exchanges the banks for the new mode (R112). -/
theorem replaceCpsr_exchanges (s : State) (w : Word) :
    SameBanks (switchMode s (curMode s) (modeOf w)) (replaceCpsr s w) := by
  have h : SameBanks s { s with cpsr := setBit w 24 false } := ⟨rfl, by constructor <;> rfl⟩
  exact h.switchMode _ _

/-- Nothing else changes in a status write (R112). -/
theorem replaceCpsr_keeps (s : State) (w : Word) :
    ExchangeKeeps { s with cpsr := setBit w 24 false } (replaceCpsr s w) := switchMode_keeps _ _ _

/-- An instruction that replaces the status register (R112). -/
theorem completes_replaceCpsr {i : Instr} {s : State} {w : Word}
    (hx : exec i s = finish s (.ok () (replaceCpsr (begun s) w))) : completes i s fun t =>
      t.cpsr = setBit w 24 false ∧ (∀ i, reg t i = reg (switchMode s (curMode s) (modeOf w)) i) ∧
      KeepsBanks (switchMode s (curMode s) (modeOf w)) t ∧ keepsSpsr [] s t ∧ keepsBytes [] s t ∧
      KeepsSystem s t ∧ KeepsCache s t ∧ KeepsDevices s t ∧ t.slot0 = s.slot0 ∧ t.slot1 = s.slot1 := by
  have hbegun : SameBanks s (begun s) := ⟨rfl, by constructor <;> rfl⟩
  obtain ⟨hr, ⟨_, _, _, _, _⟩⟩ := (hbegun.switchMode (curMode s) (modeOf w)).trans (replaceCpsr_exchanges (begun s) w)
  obtain ⟨hcpsr, hm, hs, ⟨_, _, _, _, _, _, _, _⟩, ⟨_, _⟩, ⟨_, _, _, _, _, _, _⟩, ⟨h0, h1⟩, -⟩ :=
    replaceCpsr_keeps (begun s) w
  refine completes_finish hx rfl ⟨hcpsr, reg_congr hr, ⟨?_, ?_, ?_, ?_, ?_⟩,
    fun b _ => (bankSpsr_charged _ _ b).trans ((hs b).trans (by cases b <;> rfl)),
    fun k _ => congrArg (Memory.read · k) hm, ⟨?_, ?_, ?_, ?_, ?_, ?_, ?_, ?_⟩, ⟨?_, ?_⟩,
    ⟨?_, ?_, ?_, ?_, ?_, ?_, ?_⟩, h0, h1⟩ <;> assumption

/-- An instruction that writes the saved status of a bank (R114). -/
theorem completes_setBankSpsr {i : Instr} {s : State} {b : BankMode} {v : Word} {P : Word → Prop}
    (hx : exec i s = finish s (.ok () (setBankSpsr (begun s) b v))) (hp : P v) : completes i s fun t =>
      P (bankSpsr t b) ∧ keepsSpsr [b] s t ∧ keepsRegs [] s t ∧ keepsStatus [] s t ∧ keepsBytes [] s t ∧
      KeepsBanks s t ∧ KeepsSystem s t ∧ KeepsCache s t ∧ KeepsDevices s t ∧ t.slot0 = s.slot0 ∧ t.slot1 = s.slot1 := by
  obtain ⟨⟨hr, ⟨_, _, _, _, _⟩⟩, hm, hst, ⟨_, _, _, _, _, _, _, _⟩, ⟨_, _⟩, ⟨_, _, _, _, _, _, _⟩⟩ :=
    setBankSpsr_keeps (begun s) b v
  have hsaved : ∀ c, bankSpsr (charged s (setBankSpsr (begun s) b v)) c = if c = b then v else bankSpsr s c := fun c => by
    rw [bankSpsr_charged, bankSpsr_setBankSpsr, bankSpsr_begun]
  refine completes_finish hx rfl ⟨?_, fun c hcb => ?_, fun j _ => reg_congr hr j,
    fun j _ => congrArg (BitVec.getLsbD · j) hst, fun k _ => congrArg (Memory.read · k) hm, ⟨?_, ?_, ?_, ?_, ?_⟩,
    ⟨?_, ?_, ?_, ?_, ?_, ?_, ?_, ?_⟩, ⟨?_, ?_⟩, ⟨?_, ?_, ?_, ?_, ?_, ?_, ?_⟩, ?_, ?_⟩ <;> try assumption
  · rwa [hsaved b, if_pos rfl]
  · rw [hsaved c, if_neg (by simpa using hcb)]
  · cases b <;> rfl
  · cases b <;> rfl

/-- Settles O20: the merged word is the one whose bits R541 lists, and is installed or refused; a saved status takes its
merged word. -/
theorem msrWritesStatus : Obligations.MsrWritesStatus := by
  intro s cond fm src hc hl
  have hspsr := exec_msrInstr hc hl true fm
  rw [msrWrite, if_pos rfl] at hspsr
  refine ⟨fun w hw => ?_, fun b hb => ?_, fun hb => ?_⟩
  · have hx := exec_msrInstr hc hl false fm
    rw [msrWrite_cpsr (s := begun s) (merged_cpsr_eq hw), show flagT (begun s) = flagT s from rfl] at hx
    split_ifs with ht hv
    · rw [hx, bne_iff_ne.2 ht, unpredictableIf_true, finish_fault]
    · rw [hx, bne_eq_false_iff_eq.2 (not_not.1 ht), unpredictableIf_false, hv]
      rfl
    · rw [bne_eq_false_iff_eq.2 (not_not.1 ht), unpredictableIf_false, (Bool.not_eq_false _).mp hv] at hx
      exact completes_replaceCpsr hx
  · rw [withSpsrBank_some (s := begun s) _ hb, bankSpsr_begun] at hspsr
    exact completes_setBankSpsr (P := fun v => ∀ i, i < 32 → v.getLsbD i =
      if msrTakes false fm i then (msrOperand s src).getLsbD i else (bankSpsr s b).getLsbD i) hspsr fun i hi => by
        rw [getLsbD_merged _ _ _ hi]
        exact congrArg (fun x : Bool => if x then _ else _) (getLsbD_cpsrMask false fm hi)
  · rw [hspsr, withSpsrBank_none (s := begun s) _ hb]
    rfl

end Sys2Proof.Machine
end

section
/-! PROOFS. CLZ and the saturating instructions (spec/41_arm_dataproc.md R545-R553): O21 and O22. -/

namespace Sys2Proof.Machine

open Sys2Proof Sys2Proof.Claims

/-! ### Leading zeros (R545) -/

/-- What a count of zeros from bit `n - 1` down means: as many zeros, and a one below them where any bit is left. -/
theorem leadingZeros_spec (v : Word) (n : Nat) : leadingZeros v n ≤ n ∧
    (∀ k, k < n → n ≤ k + leadingZeros v n → v.getLsbD k = false) ∧
    (leadingZeros v n < n → v.getLsbD (n - 1 - leadingZeros v n) = true) := by
  induction n with
  | zero => exact ⟨le_rfl, fun k hk => absurd hk (Nat.not_lt_zero k), fun h => absurd h (Nat.not_lt_zero _)⟩
  | succ n ih =>
    obtain ⟨hle, hzeros, hone⟩ := ih
    rw [leadingZeros]
    split
    next hset => exact ⟨Nat.zero_le _, fun k hk hk' => by omega, fun _ => hset⟩
    next hclear =>
      refine ⟨by omega, fun k hk hk' => ?_, fun h => ?_⟩
      · by_cases hkn : k = n
        · rw [hkn]
          exact Bool.eq_false_iff.2 hclear
        · exact hzeros k (by omega) (by omega)
      · rw [show n + 1 - 1 - (leadingZeros v n + 1) = n - 1 - leadingZeros v n by omega]
        exact hone (by omega)

/-- Settles O21: the count's meaning, at the whole width. -/
theorem clzCountsLeadingZeros : Obligations.ClzCountsLeadingZeros := by
  intro s cond rd rm hc hd hm
  obtain ⟨hle, hzeros, hone⟩ := leadingZeros_spec (reg s rm) 32
  have hx : exec (.clz cond 0xF#4 rd 0xF#4 rm) s = finish s (unpredictableIf (rd == 15#4 || rm == 15#4) .clzR15
      (done (setReg (begun s) rd (BitVec.ofNat 32 (leadingZeros (reg s rm) 32))))) := runIf_pass _ hc
  rw [beq_false_of_ne hd, beq_false_of_ne hm, Bool.or_self, unpredictableIf_false] at hx
  obtain ⟨t, ht, hframe, hrd⟩ := completes_setReg hx
  have hcount : (reg t rd).toNat = leadingZeros (reg s rm) 32 := by
    rw [hrd, BitVec.toNat_ofNat]
    exact Nat.mod_eq_of_lt (by omega)
  refine ⟨t, ht, hframe, ?_, fun k hk => ?_, fun h => ?_⟩
  · rw [hcount]
    exact hle
  · rw [hcount] at hk
    by_cases hlt : k < 32
    · exact hzeros k hlt hk
    · exact BitVec.getLsbD_of_ge _ k (by omega)
  · rw [hcount] at h ⊢
    exact hone h

/-! ### Saturation (R13, R550-R553) -/

/-- The saturated value is the exact one brought into range, and saturation is that it was outside (R13). -/
theorem signedSat32_spec (e : Int) : (signedSat32 e).1.toInt = clamp32 e ∧ (signedSat32 e).2 = outside32 e := by
  unfold signedSat32 clamp32 outside32
  split_ifs with hhigh hlow
  · have hmax : (0x7FFFFFFF#32).toInt = 2 ^ 31 - 1 := by decide
    exact ⟨by dsimp only; omega, by simp only [Bool.true_eq, decide_eq_true_eq]; omega⟩
  · have hmin : (0x80000000#32).toInt = -(2 ^ 31) := by decide
    exact ⟨by dsimp only; omega, by simp only [Bool.true_eq, decide_eq_true_eq]; omega⟩
  · have hexact : (BitVec.ofInt 32 e).toInt = e :=
      BitVec.toInt_ofInt_eq_self (by decide) (by omega) (by omega)
    exact ⟨by dsimp only; omega, by simp only [Bool.false_eq, decide_eq_false_iff_not]; omega⟩

/-- The saturating instructions' checks let every register but R15 through (R550). -/
theorem saturating_legal {rn rd rm : Reg} (hn : rn ≠ 15#4) (hd : rd ≠ 15#4) (hm : rm ≠ 15#4) (r : Res Unit) :
    saturating rn rd 0#4 rm r = r := by
  rw [saturating, beq_false_of_ne hd, beq_false_of_ne hm, beq_false_of_ne hn]
  rfl

/-- An instruction that writes a saturated result and Q (R550). -/
theorem completes_saturated {i : Instr} {s : State} {rd : Reg} {e : Int} {sat : Bool}
    (hx : exec i s = finish s (.ok () (saturated (begun s) rd (signedSat32 e) sat))) : completes i s fun t =>
      Frame [rd] [27] [] s t ∧ (reg t rd).toInt = clamp32 e ∧ flagQ t = (flagQ s || sat || outside32 e) := by
  obtain ⟨hvalue, hsat⟩ := signedSat32_spec e
  refine completes_finish hx rfl ⟨Frame.charged ?_ s, ?_, ?_⟩
  · refine ((Frame.begun s).setReg _ List.mem_cons_self).setFlags fun i hi => ?_
    rw [getLsbD_withQ, if_neg (by simpa using hi)]
  · rw [← hvalue]
    exact congrArg BitVec.toInt (reg_setReg_same (begun s) rd _)
  · rw [flagQ, charged_cpsr, saturated, setFlags_cpsr, getLsbD_withQ, if_pos rfl, hsat, Bool.or_assoc,
      Bool.or_comm sat]
    rfl

/-- Settles O22: each is one saturated result; the doubled operand is itself saturated. -/
theorem saturatingResults : Obligations.SaturatingResults := by
  intro s cond rn rd rm hc hn hd hm
  obtain ⟨hdouble, hsat⟩ := signedSat32_spec (2 * (reg s rn).toInt)
  have hlegal := saturating_legal hn hd hm
  dsimp only
  rw [← hdouble, ← hsat]
  exact ⟨completes_saturated ((runIf_pass _ hc).trans (congrArg _ (hlegal _))),
    completes_saturated ((runIf_pass _ hc).trans (congrArg _ (hlegal _))),
    completes_saturated ((runIf_pass _ hc).trans (congrArg _ (hlegal _))),
    completes_saturated ((runIf_pass _ hc).trans (congrArg _ (hlegal _)))⟩

end Sys2Proof.Machine
end

section
/-! PROOFS. The ARM multiplies (spec/42_arm_multiply.md R600-R614): O23 and O24. -/

namespace Sys2Proof.Machine

open Sys2Proof Sys2Proof.Claims

/-! ### Exact products (R603, R605, R610, R611) -/

/-- The product of two signed words of any widths is within the product of their ranges. -/
theorem abs_toInt_mul_toInt_le {v w : Nat} (x : BitVec v) (y : BitVec w) :
    |x.toInt * y.toInt| ≤ 2 ^ (v - 1) * 2 ^ (w - 1) := by
  have range {n : Nat} (z : BitVec n) : |z.toInt| ≤ 2 ^ (n - 1) :=
    abs_le.2 ⟨z.le_toInt, z.toInt_le.trans (by omega)⟩
  rw [abs_mul]
  exact mul_le_mul (range x) (range y) (abs_nonneg _) (by positivity)

theorem toNat_unsignedProduct (a b : Word) : (unsignedProduct a b).toNat = a.toNat * b.toNat := by
  have hlt : a.toNat * b.toNat < 2 ^ 64 := (Nat.mul_lt_mul'' a.isLt b.isLt).trans_eq (by norm_num)
  rw [unsignedProduct, BitVec.toNat_ofNat, Nat.mod_eq_of_lt hlt]

theorem toInt_signedProduct (a b : Word) : (signedProduct a b).toInt = a.toInt * b.toInt := by
  obtain ⟨hlow, hhigh⟩ := abs_le.1 (abs_toInt_mul_toInt_le a b)
  exact BitVec.toInt_ofInt_eq_self (by decide) (by omega) (by omega)

/-- A 64-bit accumulation is the exact signed sum modulo 2^64 (R606, R613). -/
theorem ofInt_add_accumulator (e : Int) (acc : BitVec 64) :
    BitVec.ofInt 64 e + acc = BitVec.ofInt 64 (e + acc.toInt) := by
  rw [BitVec.ofInt_add, BitVec.ofInt_toInt]

theorem signedHalf_eq_halfInt (v : Word) (top : Bool) : signedHalf v top = halfInt v top := by
  have hlt := v.isLt
  cases top with
  | false =>
    have hnat : (v.extractLsb' 0 16).toNat = v.toNat % 2 ^ 16 := rfl
    simp only [signedHalf, halfInt, Bool.false_eq_true, if_false, BitVec.toInt_eq_toNat_cond, hnat]
    omega
  | true =>
    have hnat : (v.extractLsb' 16 16).toNat = v.toNat / 2 ^ 16 := by
      rw [BitVec.extractLsb'_toNat, Nat.shiftRight_eq_div_pow]
      omega
    simp only [signedHalf, halfInt, if_true, BitVec.toInt_eq_toNat_cond, hnat]
    omega

/-- A product of two halves fits in a word (R614). -/
theorem toInt_halfProduct (s : State) (rm : Reg) (x : Bool) (rs : Reg) (y : Bool) :
    (BitVec.ofInt 32 (halfProduct s rm x rs y)).toInt = halfProduct s rm x rs y := by
  have hrange : |halfProduct s rm x rs y| ≤ 2 ^ 30 := by
    unfold halfProduct signedHalf
    cases x <;> cases y <;> exact abs_toInt_mul_toInt_le _ _
  obtain ⟨hlow, hhigh⟩ := abs_le.1 hrange
  exact BitVec.toInt_ofInt_eq_self (by decide) (by omega) (by omega)

theorem halfProduct_eq (s : State) (rm : Reg) (x : Bool) (rs : Reg) (y : Bool) :
    halfProduct s rm x rs y = halfInt (reg s rm) x * halfInt (reg s rs) y := by
  rw [halfProduct, signedHalf_eq_halfInt, signedHalf_eq_halfInt]

/-- Bits 47:16 of a 48-bit number are its quotient by 2^16, rounded down. -/
theorem toInt_extract_high (p : BitVec 48) : (p.extractLsb' 16 32).toInt = p.toInt / 2 ^ 16 := by
  have hlt := p.isLt
  have hnat : (p.extractLsb' 16 32).toNat = p.toNat / 2 ^ 16 := by
    rw [BitVec.extractLsb'_toNat, Nat.shiftRight_eq_div_pow]
    omega
  rw [BitVec.toInt_eq_toNat_cond, BitVec.toInt_eq_toNat_cond, hnat]
  omega

theorem toInt_wideProduct (s : State) (rm rs : Reg) (y : Bool) :
    (wideProduct s rm rs y).toInt = (reg s rm).toInt * halfInt (reg s rs) y / 2 ^ 16 := by
  have hrange : |(reg s rm).toInt * signedHalf (reg s rs) y| ≤ 2 ^ 46 := by
    unfold signedHalf
    cases y <;> exact abs_toInt_mul_toInt_le _ _
  obtain ⟨hlow, hhigh⟩ := abs_le.1 hrange
  rw [wideProduct, toInt_extract_high, BitVec.toInt_ofInt_eq_self (by decide) (by omega) (by omega),
    signedHalf_eq_halfInt]

theorem overflows32_eq_outside32 (e : Int) : overflows32 e = outside32 e := by
  rw [overflows32, outside32, ← Bool.decide_or, decide_eq_decide]
  omega

/-! ### The shared ends of the multiplies -/

section Ends
variable {i : Instr} {s t : State} {sf : Bool}

/-- N and Z replaced where S = 1 (R601, R603). -/
theorem Frame.setNZ {regs : List Reg} {keys : List Nat} (h : Frame regs (nzBits sf) keys s t) {w : Word}
    (hw : ∀ j, j ≠ 30 → j ≠ 31 → w.getLsbD j = t.cpsr.getLsbD j) :
    Frame regs (nzBits sf) keys s (if sf then Machine.setFlags t w else t) := by
  cases sf with
  | false => exact h
  | true =>
    refine h.setFlags fun j hj => ?_
    obtain ⟨h31, h30⟩ : j ≠ 31 ∧ j ≠ 30 := by simpa [nzBits] using hj
    exact hw j h30 h31

theorem reg_setNZ (t : State) (sf : Bool) (w : Word) (j : Reg) :
    reg (if sf then setFlags t w else t) j = reg t j := by cases sf <;> rfl

/-- An instruction that ends in a 32-bit product (R601, R602). -/
theorem completes_product32 {rd : Reg} {r : Word} {n : Nat} (hx : exec i s = finish s (product32 (begun s) sf rd r))
    (hr : r.toNat = n) : completes i s fun t =>
      Frame [rd] (nzBits sf) [] s t ∧ (reg t rd).toNat = n ∧ (sf = true → leavesNZ t (reg t rd)) := by
  have hrd (w : Word) : reg (if sf then setFlags (setReg (begun s) rd r) w else setReg (begun s) rd r) rd = r := by
    rw [reg_setNZ, reg_setReg_same]
  refine completes_finish hx rfl ⟨Frame.charged ?_ s, ?_, fun hs => ?_⟩
  · refine ((Frame.begun s).setReg _ List.mem_cons_self).setNZ fun j h30 h31 => ?_
    rw [getLsbD_withNZ, if_neg h30, if_neg h31]
  · rw [reg_charged, hrd, hr]
  · rw [reg_charged, hrd]
    subst hs
    exact ⟨getLsbD_withNZ _ r 31, getLsbD_withNZ _ r 30⟩

/-- An instruction that ends in a 64-bit product (R603). -/
theorem completes_product64 {rdHi rdLo : Reg} {p : BitVec 64} (hne : rdHi ≠ rdLo)
    (hx : exec i s = finish s (product64 (begun s) sf rdHi rdLo p)) : completes i s fun t =>
      Frame [rdHi, rdLo] (nzBits sf) [] s t ∧ pairHolds t rdHi rdLo p ∧ (sf = true → leavesNZ64 t p) := by
  refine completes_finish hx rfl ⟨Frame.charged ?_ s, ⟨?_, ?_⟩, ?_⟩
  · refine Frame.setNZ (((Frame.begun s).setReg _ (by simp)).setReg _ (by simp)) fun j h30 h31 => ?_
    rw [getLsbD_withNZ64, if_neg h30, if_neg h31]
  · rw [reg_charged, reg_setNZ, reg_setReg_ne _ _ hne.symm, reg_setReg_same]
  · rw [reg_charged, reg_setNZ, reg_setReg_same]
  · rintro rfl
    exact ⟨getLsbD_withNZ64 _ p 31, getLsbD_withNZ64 _ p 30⟩

/-- An instruction that ends in a 32-bit accumulation (R610, R611). -/
theorem completes_accumulate32 {rd : Reg} {e : Int} (hx : exec i s = finish s (accumulate32 (begun s) rd e)) :
    completes i s fun t =>
      Frame [rd] [27] [] s t ∧ reg t rd = BitVec.ofInt 32 e ∧ flagQ t = (flagQ s || outside32 e) := by
  rw [← overflows32_eq_outside32]
  refine completes_finish hx rfl ⟨Frame.charged ?_ s, reg_setReg_same (begun s) rd _, getLsbD_withQ _ _ 27⟩
  refine ((Frame.begun s).setReg _ List.mem_cons_self).setFlags fun j hj => ?_
  rw [getLsbD_withQ, if_neg (by simpa using hj)]

end Ends

/-- A check whose case does not hold lets the body through. -/
theorem unpredictableIf_legal {α : Type} {bad : Bool} (h : bad = false) (f : Fault) (r : Res α) :
    unpredictableIf bad f r = r := by rw [h, unpredictableIf_false]

/-! ### MUL, MLA and the long multiplies (R601-R606) -/

/-- The long multiplies' checks let a pair through that meets none of their cases (R603). -/
theorem longChecks_legal {rdHi rdLo rs rm : Reg} (h : firstOf (longCases rdHi rdLo rs rm) = none) :
    rdHi ≠ rdLo ∧ ∀ r, longChecks rdHi rdLo rs rm r = r := by
  obtain ⟨hpc, hpair, hrm⟩ : (rdHi == 15#4 || rdLo == 15#4 || rm == 15#4 || rs == 15#4) = false ∧
      (rdHi == rdLo) = false ∧ (rdHi == rm || rdLo == rm) = false := by
    simpa only [longCases, List.forall_mem_cons, List.not_mem_nil, false_imp_iff, implies_true, and_true]
      using firstOf_eq_none.1 h
  refine ⟨beq_eq_false_iff_ne.1 hpair, fun r => ?_⟩
  rw [longChecks, hpc, hpair, hrm]
  rfl

/-- A long multiply of a legal pair whose product has the property (R603). -/
theorem completes_long {i : Instr} {s : State} {sf : Bool} {rdHi rdLo rs rm : Reg} {p : BitVec 64}
    {Q : BitVec 64 → Prop} (hl : firstOf (longCases rdHi rdLo rs rm) = none)
    (hx : exec i s = finish s (longChecks rdHi rdLo rs rm (product64 (begun s) sf rdHi rdLo p))) (hp : Q p) :
    completes i s fun t => ∃ p, (Frame [rdHi, rdLo] (nzBits sf) [] s t ∧ pairHolds t rdHi rdLo p ∧
      (sf = true → leavesNZ64 t p)) ∧ Q p := by
  obtain ⟨hne, hlegal⟩ := longChecks_legal hl
  rw [hlegal] at hx
  obtain ⟨t, ht, hleaves⟩ := completes_product64 hne hx
  exact ⟨t, ht, p, hleaves, hp⟩

/-- Settles O23: every multiply ends in one written product, whose value is the exact one. -/
theorem multiplyResults : Obligations.MultiplyResults := by
  intro s cond sf rdHi rdLo rs rm hc
  refine ⟨fun hd hs hm hne => ?_, fun hl => ?_⟩
  · have hrm : (rdHi == rm) = false := beq_false_of_ne hne
    have hmul : (rdHi == 15#4 || rm == 15#4 || rs == 15#4) = false := by simp [hd, hm, hs]
    refine ⟨completes_product32 (r := reg s rm * reg s rs) ?_ (BitVec.toNat_mul _ _),
      fun hn => completes_product32 (r := reg s rm * reg s rs + reg s rdLo) ?_ ?_⟩
    · exact (runIf_pass _ hc).trans
        (congrArg _ ((unpredictableIf_legal hmul _ _).trans (unpredictableIf_legal hrm _ _)))
    · have hmla : (rdHi == 15#4 || rm == 15#4 || rs == 15#4 || rdLo == 15#4) = false := by simp [hd, hm, hs, hn]
      exact (runIf_pass _ hc).trans
        (congrArg _ ((unpredictableIf_legal hmla _ _).trans (unpredictableIf_legal hrm _ _)))
    · rw [BitVec.toNat_add, BitVec.toNat_mul, Nat.mod_add_mod]
  · refine ⟨completes_long hl (runIf_pass _ hc) (toNat_unsignedProduct _ _),
      completes_long hl (runIf_pass _ hc) ?_, completes_long hl (runIf_pass _ hc) (toInt_signedProduct _ _),
      completes_long hl (runIf_pass _ hc) (ofInt_add_accumulator _ _)⟩
    rw [BitVec.toNat_add, toNat_unsignedProduct]
    rfl

/-! ### The halfword multiplies (R610-R614) -/

/-- An instruction that writes a register of a known signed value and nothing else (R612, R614). -/
theorem completes_setReg_toInt {i : Instr} {s : State} {rd : Reg} {v : Word} {e : Int}
    (hx : exec i s = finish s (done (setReg (begun s) rd v))) (hv : v.toInt = e) :
    completes i s fun t => Frame [rd] [] [] s t ∧ (reg t rd).toInt = e := by
  obtain ⟨t, ht, hframe, hrd⟩ := completes_setReg hx
  exact ⟨t, ht, hframe, by rw [hrd, hv]⟩

/-- Settles O24: the halves and the wide product are the exact ones, and each form writes, or accumulates, its
product. -/
theorem dspMultiplyResults : Obligations.DspMultiplyResults := by
  intro s cond rd rn rs rm x y hc hd hn hs hm
  have hthree : (rd == 15#4 || rm == 15#4 || rs == 15#4) = false := by simp [hd, hm, hs]
  have hfour : (rd == 15#4 || rm == 15#4 || rs == 15#4 || rn == 15#4) = false := by simp [hd, hm, hs, hn]
  have hpair : (rd == 15#4 || rn == 15#4 || rm == 15#4 || rs == 15#4) = false := by simp [hd, hn, hm, hs]
  dsimp only
  rw [← halfProduct_eq, ← toInt_wideProduct]
  refine ⟨completes_accumulate32 ?_, completes_accumulate32 ?_, completes_setReg_toInt ?_ rfl,
    completes_setReg_toInt ?_ (toInt_halfProduct ..), fun hne => ?_⟩
  · exact (runIf_pass _ hc).trans (congrArg _ (unpredictableIf_legal hfour _ _))
  · exact (runIf_pass _ hc).trans (congrArg _ (unpredictableIf_legal hfour _ _))
  · exact (runIf_pass _ hc).trans (congrArg _ (unpredictableIf_legal hthree _ _))
  · exact (runIf_pass _ hc).trans (congrArg _ (unpredictableIf_legal hthree _ _))
  · have hx : exec (.smlalXY cond rd rn rs y x rm) s = finish s (product64 (begun s) false rd rn
        (BitVec.ofInt 64 (halfProduct s rm x rs y) + accumulator s rd rn)) := (runIf_pass _ hc).trans
      (congrArg _ ((unpredictableIf_legal hpair _ _).trans (unpredictableIf_legal (beq_false_of_ne hne) _ _)))
    obtain ⟨t, ht, hframe, hp, -⟩ := completes_product64 hne hx
    rw [← ofInt_add_accumulator]
    exact ⟨t, ht, hframe, hp⟩

end Sys2Proof.Machine
end

section
/-! PROOFS. The word and byte transfers of flat memory, the multiple loads of the mode's registers, and the swaps
(spec/43_arm_loadstore.md R651-R659, R680-R683, R700, R701): O25, O27, O34, O36 and O38. -/

namespace Sys2Proof.Machine

open Sys2Proof Sys2Proof.Claims

/-! ### Single transfers of flat memory (R651-R669) -/

section Single
variable {s : State} {y : Single} {cond : BitVec 4} {rn rd : Reg} {f : Word × Nat}

/-- A legal single load from flat memory to a register other than the program counter. -/
theorem singleLoad_completes {k : LoadKind} (hc : passes s cond) (hl : singleLegal y rn rd = true) (hd : rd ≠ 15#4)
    (hk : singleLoad y = some k) (ho : oddHalf (loadWidth k) (singleAddr s y rn).address = false)
    (hf : flatAccess s f (accessAddr (loadWidth k) (singleAddr s y rn).address) (loadWidth k) false) :
    completes (singleInstr y cond rn rd) s fun t =>
      Frame (rd :: baseList (singleAddr s y rn).wb rn) [] [] s t ∧
      reg t rd = loadedValue s f (singleAddr s y rn).address k ∧
      basesMoved (singleAddr s y rn).wb rn (singleAddr s y rn).moved t := by
  have hx := exec_single hc hl
  rw [singleBody, hk] at hx
  exact loadOf_completes hx hd ho (singleLegal_base hl) hf

/-- A legal single store to flat memory. -/
theorem singleStore_completes {n : Width} (hc : passes s cond) (hl : singleLegal y rn rd = true)
    (hk : singleLoad y = none) (hn : singleWidth y = n) (hm : memoryCanonical s)
    (ho : oddHalf n (singleAddr s y rn).address = false)
    (hf : flatAccess s f (accessAddr n (singleAddr s y rn).address) n true)
    (hb : distinctBytes f (accessAddr n (singleAddr s y rn).address) n.bytes) :
    completes (singleInstr y cond rn rd) s fun t =>
      Frame (baseList (singleAddr s y rn).wb rn) [] (accessKeys f (accessAddr n (singleAddr s y rn).address) n.bytes)
        s t ∧
      storedAt t f (accessAddr n (singleAddr s y rn).address) n (storeSource s rd n) ∧
      basesMoved (singleAddr s y rn).wb rn (singleAddr s y rn).moved t := by
  have hx := exec_single hc hl
  rw [singleBody, hk, hn] at hx
  exact storeOf_completes hx ho hm hf hb

end Single

/-- One byte is distinct storage. -/
theorem distinctBytes_one (f : Word × Nat) (a : Word) : distinctBytes f a 1 := List.nodup_singleton _

/-- An instruction of addressing mode 2 that may name its register is a legal single transfer (R651-R659). -/
theorem singleLegal_mode2 {op : Op2} {x : Index2} {u : Bool} {rn rd : Reg} {off : Offset2}
    (hl : mode2Legal x rn rd off = true) (hd : rd ≠ 15#4 ∨ op = .str) :
    singleLegal (.mode2 op x u off) rn rd = true := by
  rw [singleLegal, hl, Bool.true_and]
  rcases hd with hd | rfl
  · rw [bne_iff_ne.2 hd, Bool.true_or, Bool.true_or]
  · simp

/-- Settles O25: each is the single load of its kind. -/
theorem loadWordByte : Obligations.LoadWordByte := by
  intro s x cond u rn rd off f hc hl hd
  exact ⟨fun hf => singleLoad_completes (y := .mode2 .ldr x u off) hc (singleLegal_mode2 hl (.inl hd)) hd rfl rfl hf,
    fun hf => singleLoad_completes (y := .mode2 .ldrb x u off) hc (singleLegal_mode2 hl (.inl hd)) hd rfl rfl hf⟩

/-- Settles O27: each is the single store of its width, of the register as `storedReg` reads it. -/
theorem storeWordByte : Obligations.StoreWordByte := by
  intro s x cond u rn rd off f hc hm hl
  refine ⟨storedReg_eq s rd, fun hf hb => ?_, fun hf hd => ?_⟩
  · rw [← storedReg_eq]
    exact singleStore_completes (y := .mode2 .str x u off) (n := .word) hc (singleLegal_mode2 hl (.inr rfl)) rfl rfl hm
      rfl hf hb
  · exact singleStore_completes (y := .mode2 .strb x u off) (n := .byte) hc (singleLegal_mode2 hl (.inl hd)) rfl rfl hm
      rfl hf (distinctBytes_one f _)

/-! ### Swaps (R700, R701) -/

/-- A read of flat memory, then a write to the same place, then a register written with what was made of the read. -/
theorem readWrite_completes {i : Instr} {s : State} {rd : Reg} {f : Word × Nat} {a v : Word} {n : Width}
    {g : Word → Word}
    (hx : exec i s = finish s ((load (begun s) a n).bind fun w t =>
      (store t a n v).bind fun _ t => done (setReg t rd (g w))))
    (hm : memoryCanonical s) (hr : flatAccess s f a n false) (hw : flatAccess s f a n true)
    (hb : distinctBytes f a n.bytes) :
    completes i s fun t => Frame [rd] [] (accessKeys f a n.bytes) s t ∧ reg t rd = g (flatRead s.mem f a n.bytes) ∧
      storedAt t f a n v := by
  obtain ⟨hflat, hread⟩ := hr
  have hstore := store_flat (s := recordAccess (begun s) a n) v hw.2 hw.1
  rw [load_flat (s := begun s) hread hflat, Res.bind_ok, hstore, Res.bind_ok] at hx
  refine completes_finish hx rfl ⟨?_, reg_setReg_same _ _ _, storedAt_flatWrite hm hb rfl⟩
  have hwritten : Frame [rd] [] (accessKeys f a n.bytes) s
      { recordAccess (recordAccess (begun s) a n) a n with mem := flatWrite s.mem f a n.bytes v } :=
    (((Frame.begun s).recordAccess a n).recordAccess a n).setMem fun k hk => read_flatWrite_of_notMem _ _ _ _ _ hk
  exact (hwritten.setReg _ (List.mem_singleton_self rd)).charged s

/-- Settles O38: the value of a swap's read is that of the load of its width. -/
theorem swapResults : Obligations.SwapResults := by
  intro s cond rn rd rm f hc hm hl
  refine ⟨fun hr hw hb => ?_, fun hr hw => ?_⟩
  · have hx : exec (.swp cond rn rd 0#4 rm) s = finish s (swapChecks rn rd 0#4 rm _) := runIf_pass _ hc
    rw [swapChecks_legal hl, loadRotated, Res.bind_assoc] at hx
    rw [← loadResult_flat s f (reg s rn) .word]
    exact readWrite_completes (g := fun w => loadResult (reg s rn) w .word) hx hm hr hw hb
  · have hx : exec (.swpb cond rn rd 0#4 rm) s = finish s (swapChecks rn rd 0#4 rm _) := runIf_pass _ hc
    rw [swapChecks_legal hl] at hx
    rw [← loadResult_flat s f (reg s rn) .byte]
    exact readWrite_completes (g := fun w => loadResult (reg s rn) w .byte) hx hm hr hw (distinctBytes_one f _)

/-! ### Multiple loads (R680) -/

theorem multipleBounds_eq (p u : Bool) (b : Word) (k : Nat) : multipleBounds p u b k = transferPair p u b k := by
  cases p <;> cases u <;> rfl

/-- A word of flat memory is the same where no byte has changed. -/
theorem wordFrom_of_frame {regs : List Reg} {bits : List Nat} {s t : State} (h : Frame regs bits [] s t) (a : Word) :
    wordFrom t a = wordFrom s a := by
  have hbytes : ∀ f b, byteAt t f b = byteAt s f b := fun f b => h.bytes _ List.not_mem_nil
  simp only [wordFrom, word4At, h.system.params, hbytes]

section Loads
variable {s t : State} {a m : Word} {w : Bool} {rn : Reg} {list : BitVec 15}

/-- The registers of a list loaded from flat memory, R15 not among them. -/
theorem loadEach_list (list : BitVec 15) (hr : wordsReadable s a (popcount list)) :
    ∃ t, loadEach setReg (listed list) a (begun s) = .ok (a + BitVec.ofNat 32 (4 * popcount list)) t ∧
      Frame (listRegs list) [] [] s t ∧ loadsList list s a t := by
  obtain ⟨t, ht, hf, hv⟩ := loadEach_first (listed_nodup list) (fun i hi => (listed_lt hi).trans (by decide)) le_rfl hr
  rw [List.take_length] at ht hf
  exact ⟨t, ht, hf, fun j i hj => hv j i (List.getElem?_eq_some_iff.1 hj).1 hj⟩

/-- The registers of a list loaded from flat memory, and the word above them (R681, R683). -/
theorem loadEach_list_and_word (list : BitVec 15) (hr : wordsReadable s a (popcount list + 1))
    (k : Word → State → Res Unit) :
    ∃ t, ((loadEach setReg (listed list) a (begun s)).bind fun b t => (load t b .word).bind k) =
        k (wordFrom s (a + BitVec.ofNat 32 (4 * popcount list))) t ∧
      Frame (listRegs list) [] [] s t ∧ loadsList list s a t := by
  obtain ⟨t, ht, hf, hv⟩ := loadEach_list list fun j hj => hr j (Nat.lt_succ_of_lt hj)
  obtain ⟨f, hflat, hread⟩ := hr (popcount list) (Nat.lt_succ_self _)
  rw [← hf.system.params] at hflat hread
  refine ⟨recordAccess t (a + BitVec.ofNat 32 (4 * popcount list)) .word, ?_, hf.recordAccess _ _, hv⟩
  rw [ht, Res.bind_ok, load_flat hread hflat, Res.bind_ok, ← wordFrom_of_frame hf, wordFrom_eq hflat]
  rfl

/-- The base written back after the loads of a list that does not name it (R650, R680). -/
theorem loaded_writeback (hf : Frame (listRegs list) [] [] s t) (hv : loadsList list s a t)
    (hw : w = true → list.getLsbD rn.toNat = false) :
    Frame (listRegs list ++ baseList w rn) [] [] s (writeback t w rn m) ∧ loadsList list s a (writeback t w rn m) ∧
      basesMoved w rn m (writeback t w rn m) := by
  refine ⟨?_, fun j i hj => ?_, writeback_moves t w rn m⟩
  · exact (hf.mono (List.subset_append_left _ _) (fun _ h => h) fun _ h => h).writeback
      (fun e => List.mem_append_right _ (mem_baseList e)) m
  · rw [← hv j i hj]
    refine reg_writeback_ne t (fun e he => ?_) m
    have hi : i ∈ listed list := List.mem_of_getElem? hj
    have hrn : rn.toNat = i := by
      rw [he, BitVec.toNat_ofNat, Nat.mod_eq_of_lt ((listed_lt hi).trans (by decide))]
    have hset := mem_listed.1 hi
    rw [← hrn, hw e] at hset
    cases hset

/-- A jump after the loads of a list leaves its registers and a base other than R15. -/
theorem loaded_jump {v : Word} (hv : loadsList list s a t) (hm : basesMoved w rn m t) (hrn : rn ≠ 15#4) (u : State) :
    loadsList list s a (charged u (jumpTo t v)) ∧ basesMoved w rn m (charged u (jumpTo t v)) := by
  have hregs := (jumpTo_keep t v).regs
  refine ⟨fun j i hj => ?_, fun e => ?_⟩
  · rw [reg_charged, hregs _ (ofNat_ne_pc (listed_lt (List.mem_of_getElem? hj))), hv j i hj]
  · rw [reg_charged, hregs rn hrn, hm e]

end Loads

/-! ### LDM(1) and LDM(3) (R681, R683) -/

/-- As many registers are listed as below R15, and one more where R15 is listed (R680). -/
theorem popcount_low (list : BitVec 16) :
    popcount list = popcount (list.setWidth 15) + (pcPart (list.getLsbD 15)).length := by
  have hlow : ∀ i, i < 15 → list.getLsbD i = (list.setWidth 15).getLsbD i := fun i hi => by
    rw [BitVec.getLsbD_setWidth, decide_eq_true hi, Bool.true_and]
  rw [popcount, listed_with_pc (list.setWidth 15) le_rfl hlow, List.length_append, popcount]

/-- Settles O34: the loads of the listed registers, the base written back, then the end of the instruction or the
interworking load of the program counter. -/
theorem loadMultiple : Obligations.LoadMultiple := by
  intro s cond p u w rn list hc hu
  refine ⟨multipleBounds_eq p u _ _, fun hr => ?_⟩
  obtain ⟨-, hpc, hbase⟩ := listCases_none hu
  have hrn : rn ≠ 15#4 := by simpa using hpc
  have hw : w = true → (list.setWidth 15).getLsbD rn.toNat = false := fun e => by
    rw [e, Bool.true_and] at hbase
    rw [BitVec.getLsbD_setWidth, hbase, Bool.and_false]
  have hx := exec_ldm1 hc hu
  split
  next h15 =>
    have hk : popcount list = popcount (list.setWidth 15) + 1 := by rw [popcount_low, h15]; rfl
    simp only [h15, if_true] at hx
    obtain ⟨t, ht, hf, hv⟩ := loadEach_list_and_word (list.setWidth 15) (fun j hj => hr j (hk ▸ hj))
      fun v t => loadWritePc (writeback t w rn (multipleEnd s p u rn (popcount list))) v
    obtain ⟨hframe, hvals, hmoved⟩ := loaded_writeback hf hv hw
    exact interworks_of_frame (hx.trans (congrArg _ ht)) hframe (loaded_jump hvals hmoved hrn s)
  next h15 =>
    have hk : popcount list = popcount (list.setWidth 15) := by rw [popcount_low, Bool.eq_false_iff.2 h15]; rfl
    obtain ⟨t, ht, hf, hv⟩ := loadEach_list (list.setWidth 15) (fun j hj => hr j (hk ▸ hj))
    obtain ⟨hframe, hvals, hmoved⟩ := loaded_writeback hf hv hw
    simp only [h15, ht, Res.bind_ok] at hx
    exact completes_finish hx rfl ⟨hframe.charged s, hvals, hmoved⟩

/-- Settles O36: the loads of the listed registers and the base written back make the state that returns. -/
theorem loadMultipleReturns : Obligations.LoadMultipleReturns := by
  intro s cond p u w rn list hc hm hu
  dsimp only
  intro hr
  obtain ⟨-, hpc, hbase⟩ := listCases_none hu
  have hw : w = true → list.getLsbD rn.toNat = false := fun e => by
    rw [e, Bool.true_and, BitVec.getLsbD_append] at hbase
    by_cases hlt : rn.toNat < 15
    · rwa [if_pos hlt] at hbase
    · exact BitVec.getLsbD_of_ge list _ (by omega)
  obtain ⟨t, ht, hf, hv⟩ := loadEach_list_and_word list hr
    fun v t => exceptionReturn (writeback t w rn (multipleEnd s p u rn (popcount list + 1))) v
  obtain ⟨hframe, hvals, hmoved⟩ := loaded_writeback hf hv hw
  have hlegal : modeLegal (writeback t w rn (multipleEnd s p u rn (popcount list + 1))) := by
    rw [modeLegal, curMode, flagJ, hframe.cpsr_eq]
    exact hm
  exact ⟨_, hframe, hvals, hmoved, returning_of_frame ((exec_ldm3 hc hu).trans (congrArg _ ht)) (.refl _) hlegal⟩

end Sys2Proof.Machine
end

section
/-! PROOFS. The branches with a link and without (spec/44_arm_branch.md R750-R752): O39. -/

namespace Sys2Proof.Machine

open Sys2Proof Sys2Proof.Claims

/-! ### Targets of a branch (R750, R752) -/

/-- An offset encoded without its low zero bits keeps the alignment of the address it is added to. -/
theorem low_bits_add_offset {k m : Nat} {v : Word} (hk : k ≤ 32) (hv : v.extractLsb' 0 k = 0#k) (a : BitVec m) :
    (v + (a ++ 0#k).signExtend 32).extractLsb' 0 k = 0#k := by
  have hoffset : ((a ++ 0#k).signExtend 32).extractLsb' 0 k = 0#k := by
    apply BitVec.eq_of_getLsbD_eq
    intro i hi
    rw [BitVec.getLsbD_extractLsb', BitVec.getLsbD_signExtend, Nat.zero_add, if_pos (show i < m + k by omega),
      BitVec.getLsbD_append, if_pos hi]
    simp
  rw [BitVec.extractLsb'_add hk, hv, hoffset, BitVec.add_zero]

/-- In ARM state the low two bits of an aligned program counter are zero (R405). -/
theorem pcAligned_low_bits {s : State} (hp : pcAligned s) (ht : flagT s = false) :
    (reg s 15#4).extractLsb' 0 2 = 0b00#2 := by
  obtain ⟨h0, h1⟩ := hp
  apply BitVec.eq_of_getLsbD_eq
  intro i hi
  rw [BitVec.getLsbD_extractLsb', decide_eq_true hi, Bool.true_and, Nat.zero_add]
  interval_cases i
  · exact h0
  · exact h1 ht

/-- An aligned program counter is even (R405). -/
theorem pcAligned_low_bit {s : State} (hp : pcAligned s) : (reg s 15#4).extractLsb' 0 1 = 0b0#1 := by
  obtain ⟨h0, -⟩ := hp
  exact BitVec.eq_of_getLsbD_eq fun i hi => by
    obtain rfl : i = 0 := by omega
    simpa using h0

/-- Setting bit 0 of an even value selects Thumb state and leaves the value the target (R410). -/
theorem jumpedTo_or_one {v : Word} {t : State} (hv : v.extractLsb' 0 1 = 0b0#1) (h : jumpedTo (v ||| 1#32) t) :
    flagT t = true ∧ reg t 15#4 = v + 2#32 := by
  have hbit : (v ||| 1#32).getLsbD 0 = true := by simp
  have hclear : v.getLsbD 0 = false := by simpa using congrArg (BitVec.getLsbD · 0) hv
  have htarget : setBit (setBit v 0 true) 0 false = v := BitVec.eq_of_getLsbD_eq fun i _ => by
    rw [getLsbD_setBit, getLsbD_setBit]
    split
    next hi => rw [hi.1, hclear]
    next => rfl
  obtain ⟨hstate, hpc⟩ := h
  rw [hbit] at hstate hpc
  exact ⟨hstate, hpc.trans (congrArg (· + 2#32) htarget)⟩

/-! ### Branches as frames -/

section Branches
variable {regs regs' : List Reg} {bits bits' : List Nat} {i : Instr} {s t u : State} {v : Word}

/-- A larger frame. -/
theorem JumpFrame.mono (h : JumpFrame regs bits s t) (hr : regs ⊆ regs') (hb : bits ⊆ bits') :
    JumpFrame regs' bits' s t :=
  { h with
    regs := fun i hi => h.regs i fun m => hi (hr m)
    status := fun i hi => h.status i fun m => hi (hb m) }

/-- A branch to an aligned value in ARM state, after changes that the frame lists (R406). -/
theorem completes_branchWritePc (hx : exec i s = finish s (branchWritePc u v)) (hf : Frame regs [] [] s u)
    (ht : flagT s = false) (hv : v.extractLsb' 0 2 = 0b00#2) :
    completes i s fun t => JumpFrame (15#4 :: regs) [] s t ∧ reg t 15#4 = v + 4#32 ∧
      ∀ j, j ≠ 15#4 → reg t j = reg u j := by
  have htu : flagT u = false := by rw [flagT, hf.cpsr_eq]; exact ht
  obtain ⟨h0, -⟩ := low_bits_zero hv
  obtain ⟨hstate, hpc⟩ := jumpTo_jumpedTo u v
  rw [h0] at hstate hpc
  refine completes_finish hx (branchWritePc_arm htu hv)
    ⟨((hf.jump v).charged s).same_state (hstate.trans ht.symm), ?_, (jumpTo_keep u v).regs⟩
  rw [reg_charged, hpc, alignWord_of_low_bits hv]
  rfl

end Branches

/-- Settles O39: a branch is an aligned write of the program counter, and BLX(1) a jump to an odd value; the link is
written first. -/
theorem branches : Obligations.Branches := by
  intro s cond h imm hp ht
  have htarget : (branchTarget s imm).extractLsb' 0 2 = 0b00#2 :=
    low_bits_add_offset (by omega) (pcAligned_low_bits hp ht) imm
  have hlink : instrAddr (begun s) + 4#32 = reg s 15#4 - 4#32 := instrAddr_arm (s := begun s) ht
  have hlinked : Frame [14#4] [] [] s (setReg (begun s) 14#4 (instrAddr (begun s) + 4#32)) :=
    (Frame.begun s).setReg _ List.mem_cons_self
  refine ⟨fun hc => ?_, fun hc => ?_, ?_⟩
  · obtain ⟨t, hx, hframe, hpc, -⟩ :=
      completes_branchWritePc (i := .b cond imm) (runIf_pass _ hc) (Frame.begun s) ht htarget
    exact ⟨t, hx, hframe, hpc⟩
  · obtain ⟨t, hx, hframe, hpc, hkept⟩ :=
      completes_branchWritePc (i := .bl cond imm) (runIf_pass _ hc) hlinked ht htarget
    refine ⟨t, hx, hframe.mono (by simp) (List.Subset.refl _), hpc, ?_⟩
    rw [hkept _ (by decide), reg_setReg_same, hlink]
  · have heven := low_bits_add_offset (by omega) (pcAligned_low_bit hp) (imm ++ BitVec.ofBool h)
    obtain ⟨hstate, hpc⟩ := jumpedTo_or_one heven (jumpTo_jumpedTo _ _)
    refine completes_finish rfl rfl
      ⟨((hlinked.jump _).charged s).mono (by simp) (List.Subset.refl _), hstate, ?_, hpc⟩
    rw [reg_charged, (jumpTo_keep _ _).regs _ (by decide), reg_setReg_same, hlink]

end Sys2Proof.Machine
end

section
/-! PROOFS. The instructions that always raise an exception (spec/44_arm_branch.md R756, R757, R760;
spec/45_arm_coprocessor.md R801-R803, R806, R807; spec/48_thumb_mem_branch.md R992, R997, R998): O41. -/

namespace Sys2Proof.Machine

open Sys2Proof Sys2Proof.Claims

/-- The address after the instruction: one width before the program counter (R405). -/
theorem instrAddr_add_width (s : State) :
    instrAddr s + (instrWidth s).size = if flagT s then reg s 15#4 - 2#32 else reg s 15#4 - 4#32 := by
  unfold instrAddr instrWidth Width.size
  cases flagT s with
  | true =>
    show reg s 15#4 - 4#32 + 2#32 = reg s 15#4 - 2#32
    bv_omega
  | false =>
    show reg s 15#4 - 8#32 + 4#32 = reg s 15#4 - 4#32
    bv_omega

/-- The return address of each kind, from the instruction's own address and from the program counter (R1104). -/
theorem excReturn_eq_returnAddress (s : State) (k : Exc) : excReturn s k = returnAddress s k := by
  cases k with
  | prefetchAbort | dataAbort =>
    rw [excReturn, returnAddress, instrAddr]
    split <;> bv_omega
  | reset | undefined | softwareInterrupt | irq | fiq => exact instrAddr_add_width s

/-- An instruction whose body raises an exception at once enters it (R1103, R1104). -/
theorem completes_raise {i : Instr} {s : State} {k : Exc} (hx : exec i s = finish s (raise (begun s) k))
    (hv : vectorsDerived s) : completes i s (Entered k (returnAddress s k) s) := by
  have he := (enterException_entered (s := begun s) hv k (returnAddress (begun s) k)).of_frame (Frame.begun s)
  rw [raise, excReturn_eq_returnAddress] at hx
  exact ⟨_, hx, he.charged s⟩

/-- An instruction of the list does nothing but raise its exception, where its condition allows it. -/
theorem exec_of_alwaysRaises {i : Instr} {s : State} {k : Exc} (hk : alwaysRaises i = some k) (ha : allowed i s) :
    exec i s = finish s (raise (begun s) k) := by
  cases i with
  | bkpt cond hi lo =>
    simp only [alwaysRaises] at hk
    split at hk
    next hcond =>
      cases hk
      subst hcond
      exact runIf_pass _ (ha _ rfl)
    next => cases hk
  | tBkpt | tSwi | tUndefB1 | tUndefB2B3 | tUndefB6B7 | tUndefB8Bb | tUndefBf | tUndefCondE | tUndefBlxOdd =>
    cases hk
    rfl
  | swi | cdp | ldcPre | ldcPost | ldcUnindexed | stcPre | stcPost | stcUnindexed | mcrr | mrrc | undefMulSpace01
  | undefSwapSpaceA | undefSwapSpaceB | undefSwapSpaceC | undefMisc0001 | undefMisc0010A | undefMisc0010B
  | undefMisc0011A | undefMisc0011B | undefMisc0100 | undefMisc0110 | undefMisc0111A | undefMisc0111B
  | undefMsrImmSpace | undefLsRegBit4 | undefCpLsSpace =>
    cases hk
    exact runIf_pass _ (ha _ rfl)
  | _ => cases hk

/-- Settles O41: the instruction's one effect is the entry. -/
theorem raisingInstructions : Obligations.RaisingInstructions :=
  fun _ _ _ hk ha hv => completes_raise (exec_of_alwaysRaises hk ha) hv

end Sys2Proof.Machine
end

section
/-! PROOFS. MCR and MRC to the system-control coprocessor (spec/45_arm_coprocessor.md R800, R804, R805;
spec/46_cp15.md R850-R862): O43 and O44. -/

namespace Sys2Proof.Machine

open Sys2Proof Sys2Proof.Claims

/-! ### Access (R800) -/

section Access
variable {s : State} {cp : BitVec 4} (r : Res Unit)

/-- Another coprocessor, and any in User mode, is Undefined (R800). -/
theorem cp15Access_undefined (h : cp ≠ 15#4 ∨ isUser s = true) : cp15Access s cp r = raise s .undefined :=
  if_pos (by simpa using h)

/-- CP15 in a privileged mode is reached (R800). -/
theorem cp15Access_reached (h : ¬ (cp ≠ 15#4 ∨ isUser s = true)) : cp15Access s cp r = r :=
  if_neg (by simpa using h)

end Access

/-- An instruction whose access is refused takes the Undefined exception (R800, R1104). -/
theorem completes_cp15_undefined {i : Instr} {s : State} {cp : BitVec 4} {r : Res Unit}
    (hx : exec i s = finish s (cp15Access (begun s) cp r)) (h : cp ≠ 15#4 ∨ isUser s = true) (hv : vectorsDerived s) :
    completes i s (Entered .undefined (returnAddress s .undefined) s) :=
  completes_raise (hx.trans (congrArg (finish s) (cp15Access_undefined (s := begun s) r h))) hv

/-! ### The key space (R850, R852, R855-R862) -/

/-- The number a concatenation spells. -/
theorem toNat_append_eq {m n : Nat} (a : BitVec m) (b : BitVec n) : (a ++ b).toNat = a.toNat * 2 ^ n + b.toNat := by
  rw [BitVec.toNat_append, ← Nat.shiftLeft_add_eq_or_of_lt b.isLt, Nat.shiftLeft_eq]

/-- The number the four fields of a key spell (R850). -/
theorem toNat_cp15Key (opc1 : BitVec 3) (crn crm : BitVec 4) (opc2 : BitVec 3) :
    (cp15Key opc1 crn crm opc2).toNat = opc1.toNat * 4096 + crn.toNat * 256 + crm.toNat * 16 + opc2.toNat := by
  rw [cp15Key, toNat_append_eq, toNat_append_eq, toNat_append_eq, toNat_append_eq, toNat_append_eq]
  simp only [BitVec.toNat_ofNat]
  omega

section Key
variable (s : State) {k : BitVec 16} {n : Nat}

/-- A read by the key's number (R852). -/
theorem cp15Read_eq (h : k.toNat = n) : cp15Read s k =
    if n = 0x000 then s.params.mainId
    else if n = 0x001 then s.params.cacheType
    else if n = 0x100 then s.ctrl
    else 0#32 := by
  subst h
  simp only [cp15Read, ← BitVec.toNat_inj, BitVec.toNat_ofNat, Nat.reducePow, Nat.reduceMod]

/-- A write by the key's number (R855-R862). -/
theorem cp15Write_eq (h : k.toNat = n) (v : Word) : cp15Write s k v =
    if n = 0x100 then writeControl s v
    else if n ∈ [0x750, 0x770, 0x752] then invalidateAll s
    else if n ∈ [0x751, 0x771] then invalidateLine s v
    else if n ∈ [0x704, 0x782] then { s with halt := .indefinite }
    else s := by
  subst h
  simp only [cp15Write, ← BitVec.toNat_inj, BitVec.toNat_ofNat, Nat.reducePow, Nat.reduceMod, List.mem_cons,
    List.not_mem_nil, or_false]

end Key

/-! ### What a write leaves (R855-R862) -/

/-- What the program itself works on is unchanged: registers, status, memory, banks, saved statuses and prefetch slots. -/
def KeepsProgram (s t : State) : Prop :=
  keepsRegs [] s t ∧ keepsStatus [] s t ∧ keepsBytes [] s t ∧ KeepsBanks s t ∧ keepsSpsr [] s t ∧ t.slot0 = s.slot0 ∧
    t.slot1 = s.slot1

/-- The control word, the vector base, the cache, the halt level and the costs are no part of what the program works on. -/
theorem keepsProgram_of_frame {s t : State} (h : Frame [] [] [] s t) (ctrl base : Word) (ic : Vector CacheSet 64)
    (halt : HaltLevel) : KeepsProgram s { t with ctrl := ctrl, exceptionBase := base, ic := ic, halt := halt } :=
  ⟨h.regs, h.status, h.bytes, ⟨h.banks.1, h.banks.2, h.banks.3, h.banks.4, h.banks.5⟩,
    fun b hb => (by cases b <;> rfl : _ = bankSpsr t b).trans (h.spsr b hb), h.slots⟩

/-- With the cache replaced, all but the cache is unchanged (R246). -/
theorem keeps_of_cache_replaced {s t : State} (h : Frame [] [] [] s t) (ic : Vector CacheSet 64) :
    KeepsProgram s { t with ic := ic } ∧ KeepsSystem s { t with ic := ic } ∧ KeepsDevices s { t with ic := ic } ∧
      { t with ic := ic }.icRng = s.icRng := by
  obtain ⟨_, _, _, _, _, _, _, _⟩ := h.system
  obtain ⟨_, _, _, _, _, _, _⟩ := h.devices
  refine ⟨keepsProgram_of_frame h _ _ ic _, ?_, ?_, h.cache.icRng⟩ <;> constructor <;> assumption

section Control
variable (s : State) (v : Word)

/-- Each bit of the control word is taken where the mask has it (R855). -/
theorem getLsbD_writeControl (n : Nat) : (writeControl s v).ctrl.getLsbD n =
    if s.params.ctrlWmask.getLsbD n then v.getLsbD n else s.ctrl.getLsbD n := by
  rcases Nat.lt_or_ge n 32 with hn | hn
  · exact getLsbD_merged s.ctrl v s.params.ctrlWmask hn
  · simp only [BitVec.getLsbD_of_ge _ _ hn, ite_self]

theorem vectorsDerived_writeControl : vectorsDerived (writeControl s v) := rfl

end Control

/-! ### Invalidates by set and way (R246, R858-R860) -/

/-- An address selects its set by bits 10:5 (R240). -/
theorem eq_cacheIndex_iff (x : Fin 64) (a : Word) : x = cacheIndex a ↔ x.val = a.toNat / 32 % 64 := by
  rw [Fin.ext_iff, cacheIndex]
  simp [Nat.shiftRight_eq_div_pow]

/-- An address's tag is its bits 31:11 (R240). -/
theorem eq_cacheTag_iff (t : BitVec 21) (a : Word) : t = cacheTag a ↔ t.toNat = a.toNat / 2048 := by
  have ha := a.isLt
  rw [← BitVec.toNat_inj, cacheTag, BitVec.extractLsb'_toNat, Nat.shiftRight_eq_div_pow, Nat.mod_eq_of_lt (by omega)]

/-- An invalidate changes a line's valid bit alone (R246). -/
theorem invalidateSet_line (keep : CacheLine → Bool) (c : CacheSet) (w : Fin 4) :
    ((invalidateSet keep c).lines.get w).valid = ((c.lines.get w).valid && keep (c.lines.get w)) ∧
      ((invalidateSet keep c).lines.get w).tag = (c.lines.get w).tag ∧
      ((invalidateSet keep c).lines.get w).data = (c.lines.get w).data := by
  rw [invalidateSet_get]
  cases keep (c.lines.get w) <;> simp

/-- Invalidate-all marks every line of every set, and keeps the rest of the cache (R858). -/
theorem invalidateAll_line (s : State) (x : Fin 64) (y : Fin 4) :
    (((invalidateAll s).ic.get x).lines.get y).valid = false ∧
      (((invalidateAll s).ic.get x).lines.get y).tag = ((s.ic.get x).lines.get y).tag ∧
      (((invalidateAll s).ic.get x).lines.get y).data = ((s.ic.get x).lines.get y).data ∧
      ((invalidateAll s).ic.get x).rr = (s.ic.get x).rr := by
  obtain ⟨hv, ht, hd⟩ := invalidateSet_line (fun _ => false) (s.ic.get x) y
  rw [invalidateAll_get]
  exact ⟨hv.trans (Bool.and_false _), ht, hd, rfl⟩

/-- Invalidate-by-address marks the lines of the address's set that have its tag, and keeps the rest of the cache (R859). -/
theorem invalidateLine_line (s : State) (a : Word) (x : Fin 64) (y : Fin 4) :
    (((invalidateLine s a).ic.get x).lines.get y).valid = (((s.ic.get x).lines.get y).valid &&
        !(decide (x.val = a.toNat / 32 % 64) && decide (((s.ic.get x).lines.get y).tag.toNat = a.toNat / 2048))) ∧
      (((invalidateLine s a).ic.get x).lines.get y).tag = ((s.ic.get x).lines.get y).tag ∧
      (((invalidateLine s a).ic.get x).lines.get y).data = ((s.ic.get x).lines.get y).data ∧
      ((invalidateLine s a).ic.get x).rr = (s.ic.get x).rr := by
  rw [invalidateLine_get, ← decide_eq_decide.2 (eq_cacheIndex_iff x a), ← decide_eq_decide.2 (eq_cacheTag_iff _ a)]
  by_cases hx : x = cacheIndex a
  · obtain ⟨hv, ht, hd⟩ := invalidateSet_line (fun l => !(l.tag == cacheTag a)) (s.ic.get x) y
    rw [if_pos hx, decide_eq_true hx, Bool.true_and, ← beq_eq_decide]
    exact ⟨hv, ht, hd, rfl⟩
  · rw [if_neg hx, decide_eq_false hx, Bool.false_and, Bool.not_false, Bool.and_true]
    exact ⟨rfl, rfl, rfl, rfl⟩

/-! ### MCR (R804) -/

/-- Settles O43: the access is refused, the source is R15, or the key selects one of five effects. -/
theorem mcrWritesCp15 : Obligations.McrWritesCp15 := by
  intro s cond opc1 crn rd cp opc2 crm hc
  have hx : exec (.mcr cond opc1 crn rd cp opc2 crm) s = finish s (cp15Access (begun s) cp
      (unpredictableIf (rd == 15#4) .mcrFromPc (done (cp15Write (begun s) (cp15Key opc1 crn crm opc2) (reg s rd))))) :=
    runIf_pass _ hc
  have hbegun : Frame [] [] [] s (charged s (begun s)) := (Frame.begun s).charged s
  intro i key v rest
  by_cases hacc : cp ≠ 15#4 ∨ isUser s = true
  · rw [if_pos hacc]
    exact completes_cp15_undefined hx hacc
  rw [if_neg hacc]
  rw [cp15Access_reached (s := begun s) _ hacc] at hx
  by_cases hrd : rd = 15#4
  · rw [if_pos hrd, hx, hrd]
    rfl
  rw [if_neg hrd]
  rw [beq_false_of_ne hrd, unpredictableIf_false, cp15Write_eq (n := key) _ (toNat_cp15Key ..)] at hx
  by_cases hctrl : key = 0x100
  · rw [if_pos hctrl] at hx ⊢
    exact completes_finish hx rfl ⟨keepsProgram_of_frame hbegun _ _ _ _, vectorsDerived_writeControl (begun s) v,
      ⟨rfl, rfl⟩, by constructor <;> rfl, getLsbD_writeControl (begun s) v⟩
  rw [if_neg hctrl] at hx ⊢
  by_cases hall : key ∈ [0x750, 0x770, 0x752]
  · rw [if_pos hall] at hx ⊢
    obtain ⟨hprog, hsys, hdev, hrng⟩ := keeps_of_cache_replaced hbegun (invalidateAll (begun s)).ic
    exact completes_finish hx rfl ⟨hprog, hsys, hdev, hrng, invalidateAll_line (begun s)⟩
  rw [if_neg hall] at hx ⊢
  by_cases hline : key ∈ [0x751, 0x771]
  · rw [if_pos hline] at hx ⊢
    obtain ⟨hprog, hsys, hdev, hrng⟩ := keeps_of_cache_replaced hbegun (invalidateLine (begun s) v).ic
    exact completes_finish hx rfl ⟨hprog, hsys, hdev, hrng, invalidateLine_line (begun s) v⟩
  rw [if_neg hline] at hx ⊢
  by_cases hwait : key ∈ [0x704, 0x782]
  · rw [if_pos hwait] at hx ⊢
    exact completes_finish hx rfl ⟨keepsProgram_of_frame hbegun _ _ _ _, by constructor <;> rfl, ⟨rfl, rfl⟩, rfl,
      rfl, rfl, rfl⟩
  rw [if_neg hwait] at hx ⊢
  exact completes_finish hx rfl hbegun

/-! ### MRC (R805) -/

/-- A status whose four flags are those of another word (R805): bits 31:28 and no other. -/
theorem getLsbD_flagsReplaced (w v : Word) {i : Nat} (hi : i < 32) :
    ((w &&& 0x0FFFFFFF#32) ||| (v &&& 0xF0000000#32)).getLsbD i = if 28 ≤ i then v.getLsbD i else w.getLsbD i := by
  have top : (0xF0000000#32).getLsbD i = decide (28 ≤ i) := by interval_cases i <;> rfl
  refine (getLsbD_merged w v 0xF0000000#32 hi).trans ?_
  rw [top]
  simp only [decide_eq_true_eq]

/-- An instruction that writes the four flags and nothing else. -/
theorem completes_setFlags {i : Instr} {s : State} {v : Word}
    (hx : exec i s = finish s (done (setFlags (begun s) ((s.cpsr &&& 0x0FFFFFFF#32) ||| (v &&& 0xF0000000#32))))) :
    completes i s fun t => Frame [] [31, 30, 29, 28] [] s t ∧ flagN t = v.getLsbD 31 ∧ flagZ t = v.getLsbD 30 ∧
      flagC t = v.getLsbD 29 ∧ flagV t = v.getLsbD 28 := by
  have bit : ∀ {n}, 28 ≤ n → n < 32 →
      ((s.cpsr &&& 0x0FFFFFFF#32) ||| (v &&& 0xF0000000#32)).getLsbD n = v.getLsbD n := fun h hn => by
    rw [getLsbD_flagsReplaced _ _ hn, if_pos h]
  refine completes_finish hx rfl ⟨((Frame.begun s).setFlags fun n hn => ?_).charged s, bit (by decide) (by decide),
    bit (by decide) (by decide), bit (by decide) (by decide), bit (by decide) (by decide)⟩
  rcases Nat.lt_or_ge n 32 with h | h
  · simp only [List.mem_cons, List.not_mem_nil, or_false, not_or] at hn
    rw [getLsbD_flagsReplaced _ _ h, if_neg (by omega)]
    rfl
  · rw [BitVec.getLsbD_of_ge _ _ h, BitVec.getLsbD_of_ge _ _ h]

/-- Settles O44: the access is refused, or the value of the key goes to the flags or to the register. -/
theorem mrcReadsCp15 : Obligations.MrcReadsCp15 := by
  intro s cond opc1 crn rd cp opc2 crm hc
  have hx : exec (.mrc cond opc1 crn rd cp opc2 crm) s = finish s (cp15Access (begun s) cp
      (if rd = 15#4 then done (setFlags (begun s) ((s.cpsr &&& 0x0FFFFFFF#32) |||
          (cp15Read s (cp15Key opc1 crn crm opc2) &&& 0xF0000000#32)))
        else done (setReg (begun s) rd (cp15Read s (cp15Key opc1 crn crm opc2))))) := runIf_pass _ hc
  rw [cp15Read_eq _ (toNat_cp15Key ..)] at hx
  intro i key v
  by_cases hacc : cp ≠ 15#4 ∨ isUser s = true
  · rw [if_pos hacc]
    exact completes_cp15_undefined hx hacc
  rw [if_neg hacc]
  rw [cp15Access_reached (s := begun s) _ hacc] at hx
  by_cases hrd : rd = 15#4
  · rw [if_pos hrd]
    rw [if_pos hrd] at hx
    exact completes_setFlags hx
  · rw [if_neg hrd]
    rw [if_neg hrd] at hx
    exact completes_setReg hx

end Sys2Proof.Machine
end

section
/-! PROOFS. Thumb data processing and moves (spec/47_thumb_alu.md R901-R932, R935-R938; spec/48_thumb_mem_branch.md
R994): O45 and O46. -/

namespace Sys2Proof.Machine

open Sys2Proof Sys2Proof.Claims

/-! ### What a result leaves (R900) -/

/-- A flag replaced where the result has it, and kept where it has not (R900). -/
def withFlag (w : Word) (n : Nat) : Option Bool → Word
  | some b => setBit w n b
  | none => w

theorem getLsbD_withFlag (w : Word) {n : Nat} (hn : n < 32) (o : Option Bool) (i : Nat) :
    (withFlag w n o).getLsbD i = if i = n then o.getD (w.getLsbD n) else w.getLsbD i := by
  cases o with
  | none => by_cases hi : i = n <;> simp [withFlag, hi]
  | some b => simp [withFlag, getLsbD_setBit, hn]

theorem getLsbD_withFlag_kept (w : Word) {n i : Nat} {o : Option Bool} (h : o.isSome = true → ¬i = n) :
    (withFlag w n o).getLsbD i = w.getLsbD i := by
  cases o with
  | none => rfl
  | some b => rw [withFlag, getLsbD_setBit, if_neg fun e => h rfl e.1]

/-- The status with the flags of a result: N and Z always, C and V where the result has them (R900). -/
def resultFlags (r : ThumbResult) (w : Word) : Word :=
  withFlag (withFlag (withNZ w r.value) 29 r.carry) 28 r.overflow

/-- What a data-processing instruction does with its result: the register it names, then the flags (R900). -/
def leaveResult (r : ThumbResult) (s : State) : State :=
  let t := match r.dest with
    | some d => setReg s d r.value
    | none => s
  setFlags t (resultFlags r t.cpsr)

section Result
variable (r : ThumbResult) {s : State}

theorem getLsbD_resultFlags (w : Word) (i : Nat) : (resultFlags r w).getLsbD i =
    if i = 28 then r.overflow.getD (w.getLsbD 28)
    else if i = 29 then r.carry.getD (w.getLsbD 29)
    else if i = 30 then r.value == 0#32
    else if i = 31 then r.value.getLsbD 31
    else w.getLsbD i := by
  simp only [resultFlags, getLsbD_withFlag, getLsbD_withNZ, Nat.reduceLT, Nat.reduceEqDiff, if_false]

/-- The flags that a result does not write are kept (R900). -/
theorem getLsbD_resultFlags_kept (w : Word) {i : Nat} (hi : i ∉ thumbBits r) :
    (resultFlags r w).getLsbD i = w.getLsbD i := by
  simp only [thumbBits, List.cons_append, List.nil_append, List.mem_cons, List.mem_append, List.mem_ite_nil_right,
    List.not_mem_nil, or_false, not_or, not_and] at hi
  obtain ⟨h31, h30, hcarry, hoverflow⟩ := hi
  rw [resultFlags, getLsbD_withFlag_kept _ hoverflow, getLsbD_withFlag_kept _ hcarry, getLsbD_withNZ, if_neg h30,
    if_neg h31]

theorem leaveResult_frame : Frame r.dest.toList (thumbBits r) [] s (leaveResult r (begun s)) := by
  obtain ⟨_ | d, x, c, v⟩ := r
  · exact (Frame.begun s).setFlags fun i hi => getLsbD_resultFlags_kept _ _ hi
  · exact ((Frame.begun s).setReg x List.mem_cons_self).setFlags fun i hi => getLsbD_resultFlags_kept _ _ hi

theorem reg_leaveResult {d : Reg} (h : r.dest = some d) : reg (leaveResult r s) d = r.value := by
  rw [leaveResult, h]
  exact reg_setReg_same s d r.value

theorem getLsbD_leaveResult (i : Nat) : (leaveResult r s).cpsr.getLsbD i = (resultFlags r s.cpsr).getLsbD i := by
  rw [leaveResult]
  cases r.dest <;> rfl

end Result

/-- An instruction that ends by leaving a result (R900). -/
theorem completes_leaveResult {i : Instr} {s : State} {r : ThumbResult}
    (hx : exec i s = finish s (.ok () (leaveResult r (begun s)))) : completes i s fun t =>
      Frame r.dest.toList (thumbBits r) [] s t ∧ (∀ d, r.dest = some d → reg t d = r.value) ∧ leavesNZ t r.value ∧
      (∀ c, r.carry = some c → flagC t = c) ∧ ∀ v, r.overflow = some v → flagV t = v := by
  refine completes_finish hx rfl
    ⟨(leaveResult_frame r).charged s, fun d hd => reg_leaveResult r hd, ?_⟩
  simp only [leavesNZ, flagN, flagZ, flagC, flagV, charged_cpsr, getLsbD_leaveResult, getLsbD_resultFlags]
  exact ⟨⟨by simp, by simp [beq_eq_decide]⟩, fun c hc => by simp [hc], fun v hv => by simp [hv]⟩

/-! ### The results of formats 1 to 4 and of the hi compare (R901-R927, R931) -/

section Arithmetic
variable {op : DpOp} (h : dpArithmetic op = true) (a b : Word) (c : Bool) (s : State)
include h

/-- The flags of an arithmetic function are those of the ARM function of that name (R900, R13). -/
theorem thumbFlags_eq_leaveResult :
    thumbFlags s (dpAlu op a ⟨b, false⟩ c) = .ok () (leaveResult (arithResult op none a b c) s) := by
  rw [thumbFlags, dpAlu_value, dpAlu_carry, dpAlu_overflow op a _ c h]
  rfl

/-- An arithmetic function written with its flags (R904). -/
theorem thumbArith_eq_leaveResult (rd : LowReg) :
    thumbArith s rd (dpAlu op a ⟨b, false⟩ c) = .ok () (leaveResult (arithResult op (some (lowReg rd)) a b c) s) := by
  rw [thumbArith, thumbFlags_eq_leaveResult h, dpAlu_value]
  rfl

end Arithmetic

/-- A shift by a register takes the low byte of the register as its amount (R914). -/
theorem thumbShift_eq_leaveResult (st : BitVec 2) (rm rd : LowReg) (s : State) : thumbShift st rm rd s =
    .ok () (leaveResult (shiftResult (lowReg rd) (shiftByReg st (low s rd) ((low s rm).toNat % 256) (flagC s))) s) := by
  rw [thumbShift, BitVec.toNat_setWidth]
  rfl

/-- Every instruction that has a result does nothing but leave it. -/
theorem exec_of_thumbResult {s : State} {i : Instr} {r : ThumbResult} (h : thumbResult s i = some r) :
    exec i s = finish s (.ok () (leaveResult r (begun s))) := by
  have arith (op : DpOp) (ho : dpArithmetic op = true) (rd : LowReg) (a b : Word) (c : Bool) :=
    congrArg (finish s) (thumbArith_eq_leaveResult ho a b c (begun s) rd)
  have compare (op : DpOp) (ho : dpArithmetic op = true) (a b : Word) :=
    congrArg (finish s) (thumbFlags_eq_leaveResult ho a b false (begun s))
  cases i with
  | tLslImm | tLsrImm | tAsrImm | tMovImm | tAnd | tEor | tTst | tOrr | tBic | tMvn =>
    cases h
    rfl
  | tLslReg | tLsrReg | tAsrReg | tRor =>
    cases h
    exact congrArg (finish s) (thumbShift_eq_leaveResult _ _ _ (begun s))
  | tAddReg | tAddImm3 | tAddImm8 =>
    cases h
    exact arith .add rfl _ _ _ false
  | tSubReg | tSubImm3 | tSubImm8 | tNeg =>
    cases h
    exact arith .sub rfl _ _ _ false
  | tAdc =>
    cases h
    exact arith .adc rfl _ _ _ _
  | tSbc =>
    cases h
    exact arith .sbc rfl _ _ _ _
  | tCmpImm | tCmpReg =>
    cases h
    exact compare .sub rfl _ _
  | tCmn =>
    cases h
    exact compare .add rfl _ _
  | tMul rm rd =>
    rw [thumbResult] at h
    split at h
    next => cases h
    next hne =>
      cases h
      exact congrArg (finish s) (unpredictableIf_legal (beq_false_of_ne hne) _ _)
  | tCmpHi h1 h2 rm rd =>
    rw [thumbResult] at h
    split at h
    next => cases h
    next hlow =>
      cases h
      exact (congrArg (finish s) (unpredictableIf_legal (Bool.eq_false_iff.2 hlow) _ _)).trans (compare .sub rfl _ _)
  | _ => cases h

/-- Settles O45: each of the instructions leaves its result, and a result is its register, N, Z and what it has of C
and V. -/
theorem thumbDataProcessing : Obligations.ThumbDataProcessing :=
  fun _ _ _ h => completes_leaveResult (exec_of_thumbResult h)

/-! ### Immediates and their low zero bits -/

section Immediates
variable {m : Nat} (a : BitVec m)

/-- A shifted immediate is the immediate written with zeros below it (R12). -/
theorem setWidth_shiftLeft_eq_append (k : Nat) : a.setWidth 32 <<< k = (a ++ 0#k).setWidth 32 := by
  apply BitVec.eq_of_toNat_eq
  rw [toNat_shiftLeft_word, BitVec.toNat_setWidth, BitVec.toNat_setWidth, toNat_append_eq, BitVec.toNat_zero,
    Nat.add_zero, Nat.mod_mul_mod]

theorem scaled4_eq_append : scaled4 a = (a ++ 0b00#2).setWidth 32 := by
  rw [← setWidth_shiftLeft_eq_append, BitVec.shiftLeft_eq_mul_twoPow]
  rfl

/-- A signed immediate is shifted with its sign (R12). -/
theorem signExtend_shiftLeft_eq_append (k : Nat) (hm : 0 < m) :
    a.signExtend 32 <<< k = (a ++ 0#k).signExtend 32 := by
  apply BitVec.eq_of_getLsbD_eq
  intro i hi
  have hmsb : (a ++ 0#k).msb = a.msb := by rw [BitVec.msb_append, if_neg hm.ne']
  rw [BitVec.getLsbD_shiftLeft, BitVec.getLsbD_signExtend, BitVec.getLsbD_signExtend, hmsb, BitVec.getLsbD_append]
  by_cases hk : i < k
  · simp [hk, show i < m + k by omega]
  · have hlt : i - k < m ↔ i < m + k := by omega
    simp [hi, hk, hlt, show i - k < 32 by omega]

end Immediates

/-! ### Moves (R930, R932, R935-R938, R994) -/

/-- A hi-register operation that names a hi register runs (R930). -/
theorem hiChecked_legal {h1 h2 : Bool} (h : (!h1 && !h2) = false) (r : Res Unit) : hiChecked h1 h2 r = r :=
  unpredictableIf_legal h _ r

theorem hiWrite_register {rd : Reg} (h : rd ≠ 15#4) (s : State) (v : Word) :
    hiWrite s rd v = done (setReg s rd v) := if_neg h

theorem hiWrite_pc (s : State) (v : Word) : hiWrite s 15#4 v = branchWritePc s v := if_pos rfl

/-- Every move does nothing but write its register. -/
theorem exec_of_thumbMove {s : State} {i : Instr} {d : Reg} {v : Word} (h : thumbMove s i = some (d, v)) :
    exec i s = finish s (done (setReg (begun s) d v)) := by
  cases i with
  | tAddHi h1 h2 rm rd | tMovHi h1 h2 rm rd =>
    rw [thumbMove] at h
    split at h
    next => cases h
    next hlegal =>
      obtain ⟨hlow, hpc⟩ := Bool.or_eq_false_iff.1 (Bool.eq_false_iff.2 hlegal)
      cases h
      exact congrArg (finish s) ((hiChecked_legal hlow _).trans (hiWrite_register (beq_eq_false_iff_ne.1 hpc) _ _))
  | tAddPc | tAddSp | tAddSpImm | tSubSpImm =>
    cases h
    rw [← scaled4_eq_append]
    rfl
  | tBlPrefix =>
    cases h
    rw [← signExtend_shiftLeft_eq_append _ 12 (by decide)]
    rfl
  | _ => cases h

/-- Settles O46: the instruction's one effect is the register it writes. -/
theorem thumbMoves : Obligations.ThumbMoves :=
  fun _ _ _ _ _ h => completes_setReg (exec_of_thumbMove h)

end Sys2Proof.Machine
end

section
/-! PROOFS. The Thumb branches (spec/47_thumb_alu.md R930, R932-R934; spec/48_thumb_mem_branch.md R991, R993, R995,
R996): O47. -/

namespace Sys2Proof.Machine

open Sys2Proof Sys2Proof.Claims

/-! ### Links and targets -/

/-- The link of a call in Thumb state: the instruction's address plus 2 (R934, R995). -/
theorem instrAddr_thumb {s : State} (ht : flagT s = true) : instrAddr s + 2#32 = reg s 15#4 - 2#32 := by
  rw [instrAddr, ht]
  show reg s 15#4 - 4#32 + 2#32 = _
  bv_omega

/-- What stands before the branch: the link, where there is one, is written (R995). -/
def linked (s : State) : Option Word → State
  | some l => setReg s 14#4 l
  | none => s

theorem linked_frame (s : State) (link : Option Word) :
    Frame (if link.isSome then [14#4] else []) [] [] s (linked (begun s) link) := by
  cases link with
  | none => exact Frame.begun s
  | some l => exact (Frame.begun s).setReg l List.mem_cons_self

/-- A branch in Thumb state jumps to the target with the state bit set (R406). -/
theorem branchWritePc_thumb {s : State} (ht : flagT s = true) (v : Word) :
    branchWritePc s v = .ok () (jumpTo s (returnTarget v true)) := by
  rw [branchWritePc, ht]
  rfl

/-- A branch in Thumb state, after changes that the frame lists: bit 0 of its target is ignored (R406). -/
theorem completes_branchWritePc_thumb {i : Instr} {s u : State} {v : Word} {regs : List Reg}
    (hx : exec i s = finish s (branchWritePc u v)) (hf : Frame regs [] [] s u) (ht : flagT s = true) :
    completes i s fun t => JumpFrame (15#4 :: regs) [] s t ∧ reg t 15#4 = alignHalf v + 2#32 ∧
      ∀ j, j ≠ 15#4 → reg t j = reg u j := by
  have htu : flagT u = true := by rw [flagT, hf.cpsr_eq]; exact ht
  obtain ⟨hstate, hpc⟩ := jumpTo_jumpedTo u (returnTarget v true)
  rw [returnTarget_state] at hstate hpc
  refine completes_finish hx (branchWritePc_thumb htu v)
    ⟨((hf.jump _).charged s).same_state (hstate.trans ht.symm), ?_, (jumpTo_keep u _).regs⟩
  rw [reg_charged, hpc, if_pos rfl, alignHalf_returnTarget]

/-! ### The branches that stay in Thumb state (R930, R932, R991, R993, R995) -/

/-- Every branch of the list writes its link, then branches. -/
theorem exec_of_thumbJump {s : State} {i : Instr} {v : Word} {link : Option Word} (ht : flagT s = true)
    (h : thumbJump s i = some (v, link)) (hc : ∀ c imm, i = .tBCond c imm → passes s c) :
    exec i s = finish s (branchWritePc (linked (begun s) link) v) := by
  cases i with
  | tAddHi h1 h2 rm rd | tMovHi h1 h2 rm rd =>
    rw [thumbJump] at h
    split at h
    next hlegal =>
      obtain ⟨hhigh, hpc⟩ := Bool.and_eq_true_iff.1 hlegal
      have hlow : (!h1 && !h2) = false := by rw [← Bool.not_or, hhigh]; rfl
      cases h
      refine congrArg (finish s) ((hiChecked_legal hlow _).trans ?_)
      rw [beq_iff_eq.1 hpc]
      exact hiWrite_pc _ _
    next => cases h
  | tBCond c imm =>
    cases h
    exact runIf_pass _ (hc c imm rfl)
  | tB =>
    cases h
    rfl
  | tBlSuffix =>
    cases h
    rw [← setWidth_shiftLeft_eq_append, ← instrAddr_thumb ht]
    rfl
  | _ => cases h

/-! ### The branches that may leave Thumb state (R933, R934, R996) -/

section Exchanges
variable {s : State} (h2 : Bool) (rm : LowReg)

theorem tBx_interworks : interworks (.tBx h2 rm 0#3) (reg s (hiReg h2 rm)) [] s fun _ => True :=
  interworks_of_frame rfl (Frame.begun s) trivial

/-- BLX(2) interworks on Rm as it was before the link was written (R934). -/
theorem tBlxReg_interworks (ht : flagT s = true) (hm : hiReg h2 rm ≠ 15#4) :
    interworks (.tBlxReg h2 rm 0#3) (reg s (hiReg h2 rm)) [14#4] s fun t =>
      reg t 14#4 = (reg s 15#4 - 2#32) ||| 1#32 := by
  have hx : exec (.tBlxReg h2 rm 0#3) s = finish s
      (bxWritePc (setReg (begun s) 14#4 ((instrAddr s + 2#32) ||| 1#32)) (reg s (hiReg h2 rm))) :=
    congrArg (finish s) (unpredictableIf_legal (beq_false_of_ne hm) _ _)
  rw [instrAddr_thumb ht] at hx
  refine interworks_of_frame hx ((Frame.begun s).setReg _ List.mem_cons_self) ?_
  rw [reg_charged, (jumpTo_keep _ _).regs _ (by decide), reg_setReg_same]

end Exchanges

/-- An aligned word address jumped to is reached in ARM state (R410). -/
theorem jumpTo_alignWord (s : State) (a : Word) : flagT (jumpTo s (alignWord a)) = false ∧
    reg (jumpTo s (alignWord a)) 15#4 = alignWord a + 4#32 := by
  have heven : (alignWord a).getLsbD 0 = false := getLsbD_alignWord a 0
  have htwice : alignWord (alignWord a) = alignWord a := by simp [alignWord, BitVec.and_assoc]
  obtain ⟨hstate, hpc⟩ := jumpTo_jumpedTo s (alignWord a)
  rw [heven] at hstate hpc
  exact ⟨hstate, hpc.trans (congrArg (· + 4#32) htwice)⟩

/-- The offset of the BLX suffix: its field, the fixed 0 below it, and the shift by 1 (R996). -/
theorem blxOffset_eq_append (imm : BitVec 10) :
    (imm ++ 0b0#1).setWidth 32 <<< 1 = (imm ++ 0b00#2).setWidth 32 := by
  rw [← setWidth_shiftLeft_eq_append, ← setWidth_shiftLeft_eq_append, ← BitVec.shiftLeft_add]

/-- The BLX suffix enters ARM state at the aligned target (R996). -/
theorem tBlxSuffix_completes {s : State} (ht : flagT s = true) (imm : BitVec 10) :
    completes (.tBlxSuffix imm) s fun t => JumpFrame [14#4, 15#4] [5] s t ∧ flagT t = false ∧
      reg t 15#4 = alignWord (reg s 14#4 + (imm ++ 0b00#2).setWidth 32) + 4#32 ∧
      reg t 14#4 = (reg s 15#4 - 2#32) ||| 1#32 := by
  rw [← instrAddr_thumb ht, ← blxOffset_eq_append]
  have hlinked : Frame [14#4] [] [] s (setReg (begun s) 14#4 (thumbLink (begun s))) := linked_frame s (some _)
  obtain ⟨hstate, hpc⟩ := jumpTo_alignWord (setReg (begun s) 14#4 (thumbLink (begun s)))
    (reg s 14#4 + ((imm ++ 0b0#1).setWidth 32 <<< 1))
  refine completes_finish rfl rfl
    ⟨((hlinked.jump _).charged s).mono (by simp) (List.Subset.refl _), hstate, hpc, ?_⟩
  rw [reg_charged, (jumpTo_keep _ _).regs _ (by decide), reg_setReg_same]
  rfl

/-- Settles O47: the branches of the list are a link and a branch within Thumb state, BX and BLX(2) are interworking
writes of the program counter, and the BLX suffix is a jump to an aligned word address. -/
theorem thumbBranches : Obligations.ThumbBranches := by
  intro s ht
  refine ⟨fun i v link h hc => ?_, fun h2 rm imm =>
    ⟨tBx_interworks h2 rm, tBlxReg_interworks h2 rm ht, tBlxSuffix_completes ht imm⟩⟩
  obtain ⟨t, hx, hframe, hpc, hkept⟩ :=
    completes_branchWritePc_thumb (exec_of_thumbJump ht h hc) (linked_frame s link) ht
  refine ⟨t, hx, hframe.mono ?_ (List.Subset.refl _), hpc, ?_⟩
  · cases link <;> simp
  · rintro l rfl
    rw [hkept _ (by decide)]
    exact reg_setReg_same (begun s) 14#4 l

end Sys2Proof.Machine
end

section
/-! PROOFS. The Thumb loads and stores of flat memory (spec/48_thumb_mem_branch.md R970-R986): O48 and O49. -/

namespace Sys2Proof.Machine

open Sys2Proof Sys2Proof.Claims

section Single
variable {s : State} {i : Instr} {d : Reg} {a : Word}

/-- Thumb loads name a low register (R900). -/
theorem thumbLoad_ne_pc {k : LoadKind} (h : thumbLoad s i = some (d, a, k)) : d ≠ 15#4 := by
  cases i with
  | tLdrPc | tLdrsbReg | tLdrReg | tLdrhReg | tLdrbReg | tLdrshReg | tLdrImm | tLdrbImm | tLdrhImm | tLdrSp =>
    cases h
    exact lowReg_ne_pc _
  | _ => cases h

/-- Thumb stores name a low register (R900). -/
theorem thumbStore_ne_pc {n : Width} (h : thumbStore s i = some (d, a, n)) : d ≠ 15#4 := by
  cases i with
  | tStrReg | tStrhReg | tStrbReg | tStrImm | tStrbImm | tStrhImm | tStrSp =>
    cases h
    exact lowReg_ne_pc _
  | _ => cases h

/-- Every register but the program counter is stored as it reads (R650). -/
theorem storeSource_of_ne_pc (hd : d ≠ 15#4) (s : State) (n : Width) : storeSource s d n = reg s d := by
  cases n with
  | word => exact if_neg hd
  | half | byte => rfl

end Single

/-- Settles O48: a Thumb load is the load of its kind without writeback. -/
theorem thumbLoads : Obligations.ThumbLoads := by
  intro s i d a k f h
  obtain ⟨rn, hx⟩ := exec_thumbLoad h
  split
  next ho =>
    have hodd : oddHalf (loadWidth k) (plain a).address = true := ho
    rw [hx, loadOf_eq, hodd, unpredictableIf_true, finish_fault]
  next ho =>
    intro hf
    obtain ⟨t, ht, hframe, hvalue, -⟩ :=
      loadOf_completes (x := plain a) hx (thumbLoad_ne_pc h) (Bool.eq_false_iff.2 ho) nofun hf
    exact ⟨t, ht, hframe, hvalue⟩

/-- Settles O49: a Thumb store is the store of its width without writeback. -/
theorem thumbStores : Obligations.ThumbStores := by
  intro s i d a n f hm h
  obtain ⟨rn, hx⟩ := exec_thumbStore h
  split
  next ho =>
    have hodd : oddHalf n (plain a).address = true := ho
    rw [hx, storeOf_eq, hodd, unpredictableIf_true, finish_fault]
  next ho =>
    intro hf hb
    obtain ⟨t, ht, hframe, hstored, -⟩ := storeOf_completes (x := plain a) hx (Bool.eq_false_iff.2 ho) hm hf hb
    rw [storeSource_of_ne_pc (thumbStore_ne_pc h)] at hstored
    exact ⟨t, ht, hframe, hstored⟩

end Sys2Proof.Machine
end

section
/-! PROOFS. The Thumb multiple transfers of flat memory (spec/48_thumb_mem_branch.md R987-R990): O50 and O51. -/

namespace Sys2Proof.Machine

open Sys2Proof Sys2Proof.Claims

/-! ### Thumb lists as lists of the ARM width (R680, R987) -/

/-- Zeros above a list add no register to it. -/
theorem listed_zero_append {m : Nat} (k : Nat) (list : BitVec m) : listed (0#k ++ list) = listed list :=
  listed_eq (listed_pairwise list) fun i => by
    rw [mem_listed, BitVec.getLsbD_append]
    split
    next => rfl
    next hi => rw [BitVec.getLsbD_of_ge list i (by omega), BitVec.getLsbD_zero]

/-- R14, where it is listed. -/
def lrPart (r : Bool) : List Nat := if r then [14] else []

theorem mem_lrPart {r : Bool} {i : Nat} : i ∈ lrPart r ↔ r = true ∧ i = 14 := by cases r <;> simp [lrPart]

/-- The registers of a PUSH are those of its field, and R14 where its R bit is set (R987). -/
theorem listed_push (r : Bool) (list : BitVec 8) : listed (thumbList r 14 list) = listed list ++ lrPart r := by
  refine listed_eq (List.pairwise_append.2 ⟨listed_pairwise list, by cases r <;> simp [lrPart], fun i hi k hk => ?_⟩)
    fun i => ?_
  · obtain ⟨-, rfl⟩ := mem_lrPart.1 hk
    exact (listed_lt hi).trans (by decide)
  · rw [List.mem_append, mem_listed, mem_lrPart, getLsbD_thumbList r list (by omega), Bool.or_eq_true,
      Bool.and_eq_true, decide_eq_true_eq, eq_comm (a := 14)]

/-- As many registers as the field lists, and one more where the R bit is set (R987, R988). -/
theorem popcount_push (r : Bool) (list : BitVec 8) : popcount (thumbList r 14 list) = popcount list + r.toNat := by
  rw [popcount, listed_push, List.length_append, popcount]
  cases r <;> rfl

theorem popcount_pop (r : Bool) (list : BitVec 8) : popcount (thumbList r 15 list) = popcount list + r.toNat := by
  rw [popcount, thumbList_pop, listed_pop, List.length_append, popcount]
  cases r <;> rfl

theorem popcount_zero_append {m : Nat} (k : Nat) (list : BitVec m) : popcount (0#k ++ list) = popcount list := by
  rw [popcount, listed_zero_append, popcount]

theorem listRegs_zero_append {m : Nat} (k : Nat) (list : BitVec m) : listRegs (0#k ++ list) = listRegs list := by
  rw [listRegs, listed_zero_append, listRegs]

/-! ### Stores (R987, R989) -/

/-- A list of registers stored to flat memory, then a register written. -/
theorem storeRegs_completes {s : State} {i : Instr} {f : Word × Nat} {a v : Word} {rn : Reg} {list : BitVec 16}
    (hx : exec i s =
      finish s ((storeEach reg (listed list) a (begun s)).bind fun _ t => done (setReg t rn v)))
    (hm : memoryCanonical s) (hw : wordsWritable s f a (popcount list)) :
    completes i s fun t => Frame [rn] [] (wordsKeys f a (popcount list)) s t ∧ reg t rn = v ∧
      storesList list f a (reg s) t := by
  obtain ⟨b, t, ht, hf, hs⟩ := storeEach_list (get := reg) list (s := begun s) (fun _ _ _ _ => rfl) hm hw
  rw [ht, Res.bind_ok] at hx
  have hframe := ((Frame.begun s).trans hf).mono (List.nil_subset [rn]) (fun _ h => h) fun _ h => h
  exact completes_finish hx rfl
    ⟨(hframe.setReg v List.mem_cons_self).charged s, reg_setReg_same t rn v, storesList_congr hs rfl⟩

/-- The words of a PUSH are those of its field, and R14 above them (R987). -/
theorem storesList_push {r : Bool} {list : BitVec 8} {f : Word × Nat} {a : Word} {get : Reg → Word} {t : State}
    (h : storesList (thumbList r 14 list) f a get t) : storesList list f a get t ∧
      (r = true → word4At t f (a + BitVec.ofNat 32 (4 * popcount list)) = get 14#4) := by
  unfold storesList at h
  rw [listed_push] at h
  refine ⟨fun j i hj => h j i ?_, fun hr => h (popcount list) 14 ?_⟩
  · rw [List.getElem?_append_left (List.getElem?_eq_some_iff.1 hj).1, hj]
  · rw [hr]
    exact List.getElem?_concat_length

/-- Settles O50: the registers of the list are stored and the base is written. -/
theorem thumbStoreMultiple : Obligations.ThumbStoreMultiple := by
  intro s r rn list f hm
  refine ⟨fun hu hw => ?_, fun hu hw => ?_⟩
  · have hx := exec_tPush (s := s) (thumbList_push r list).symm hu
    rw [← popcount_push r list] at hw ⊢
    obtain ⟨t, ht, hframe, hsp, hstores⟩ := storeRegs_completes hx hm hw
    exact ⟨t, ht, hframe, hsp, storesList_push hstores⟩
  · have hx := exec_tStmia (s := s) hu
    rw [← popcount_zero_append 8 list] at hw ⊢
    obtain ⟨t, ht, hframe, hbase, hstores⟩ := storeRegs_completes hx hm hw
    refine ⟨t, ht, hframe, hbase, ?_⟩
    rw [storesList, listed_zero_append] at hstores
    exact hstores

/-! ### Loads (R988, R990) -/

/-- The loads of a list are a matter of the registers it lists. -/
theorem loadsList_zero_append {m k : Nat} {list : BitVec m} {s t : State} {a : Word} :
    loadsList (0#k ++ list) s a t ↔ loadsList list s a t := by
  rw [loadsList, loadsList, listed_zero_append]

section Loads
variable {s t : State} {a m : Word} {list : BitVec 8}

/-- The registers of a Thumb list loaded, then a base that the list does not name written back. -/
theorem thumbLoaded_writeback {w : Bool} {rn : Reg} (hf : Frame (listRegs (0#7 ++ list)) [] [] s t)
    (hv : loadsList (0#7 ++ list) s a t) (hw : w = true → list.getLsbD rn.toNat = false) :
    Frame (rn :: listRegs list) [] [] s (writeback t w rn m) ∧ loadsList (0#7 ++ list) s a (writeback t w rn m) ∧
      basesMoved w rn m (writeback t w rn m) := by
  have hbit : (0#7 ++ list : BitVec 15).getLsbD rn.toNat = list.getLsbD rn.toNat := by
    rw [Bool.eq_iff_iff, ← mem_listed, ← mem_listed, listed_zero_append]
  obtain ⟨hframe, hvals, hmoved⟩ := loaded_writeback (m := m) hf hv fun e => hbit.trans (hw e)
  rw [listRegs_zero_append] at hframe
  have hregs : listRegs list ++ baseList w rn ⊆ rn :: listRegs list := by
    cases w <;> simp [baseList]
  exact ⟨hframe.mono hregs (fun _ h => h) fun _ h => h, hvals, hmoved⟩

/-- POP without the program counter (R988). -/
theorem tPop_completes {top : Word} (hx : exec (.tPop false list) s = finish s
      ((loadEach setReg (listed list) a (begun s)).bind fun _ t => done (setReg t 13#4 top)))
    (hr : wordsReadable s a (popcount list)) :
    completes (.tPop false list) s fun t => Frame (13#4 :: listRegs list) [] [] s t ∧
      loadsList list s a t ∧ reg t 13#4 = top := by
  rw [← popcount_zero_append 7 list] at hr
  obtain ⟨t, ht, hf, hv⟩ := loadEach_list (0#7 ++ list) hr
  obtain ⟨hframe, hvals, hmoved⟩ := thumbLoaded_writeback (m := top) (w := true) hf hv fun _ =>
    BitVec.getLsbD_of_ge list (13#4).toNat (by decide)
  rw [← listed_zero_append 7 list, ht, Res.bind_ok] at hx
  exact completes_finish hx rfl ⟨hframe.charged s, loadsList_zero_append.1 hvals, hmoved rfl⟩

/-- POP of the program counter: SP is moved, then the word above the list interworks (R988). -/
theorem tPop_interworks {top : Word} (hx : exec (.tPop true list) s = finish s
      ((loadEach setReg (listed list) a (begun s)).bind fun b t => (load t b .word).bind fun v t =>
        loadWritePc (setReg t 13#4 top) v))
    (hr : wordsReadable s a (popcount list + 1)) :
    interworks (.tPop true list) (wordFrom s (a + BitVec.ofNat 32 (4 * popcount list))) (13#4 :: listRegs list) s
      fun t => loadsList list s a t ∧ reg t 13#4 = top := by
  rw [← popcount_zero_append 7 list] at hr ⊢
  obtain ⟨t, ht, hf, hv⟩ := loadEach_list_and_word (0#7 ++ list) hr fun v t => loadWritePc (setReg t 13#4 top) v
  obtain ⟨hframe, hvals, hmoved⟩ := thumbLoaded_writeback (m := top) (w := true) hf hv fun _ =>
    BitVec.getLsbD_of_ge list (13#4).toNat (by decide)
  rw [← listed_zero_append 7 list, ht] at hx
  obtain ⟨hkept, hsp⟩ := loaded_jump hvals hmoved (by decide) s
  exact interworks_of_frame hx hframe ⟨loadsList_zero_append.1 hkept, hsp rfl⟩

/-- LDMIA: the base is written back where the list does not name it (R990). -/
theorem tLdmia_completes {rn : LowReg} (hu : unpredictableForm (.tLdmia rn list) = none)
    (hr : wordsReadable s (alignWord (low s rn)) (popcount list)) :
    completes (.tLdmia rn list) s fun t => Frame (lowReg rn :: listRegs list) [] [] s t ∧
      loadsList list s (alignWord (low s rn)) t ∧
      (list.getLsbD rn.toNat = false → reg t (lowReg rn) = low s rn + BitVec.ofNat 32 (4 * popcount list)) := by
  have hx := exec_tLdmia (s := s) hu
  rw [listBytes, popcount_zero_append, listed_zero_append, ← listed_zero_append 7] at hx
  rw [← popcount_zero_append 7 list] at hr
  obtain ⟨t, ht, hf, hv⟩ := loadEach_list (0#7 ++ list) hr
  have hnum : (lowReg rn).toNat = rn.toNat := BitVec.toNat_setWidth_of_le (by decide)
  obtain ⟨hframe, hvals, hmoved⟩ := thumbLoaded_writeback (w := !list.getLsbD rn.toNat) (rn := lowReg rn)
    (m := low s rn + BitVec.ofNat 32 (4 * popcount list)) hf hv fun e => by simpa [hnum] using e
  rw [ht, Res.bind_ok] at hx
  exact completes_finish hx rfl
    ⟨hframe.charged s, loadsList_zero_append.1 hvals, fun e => hmoved (by rw [e]; rfl)⟩

end Loads

/-- Settles O51: the registers of the list are loaded and the base is written back, before the program counter is. -/
theorem thumbLoadMultiple : Obligations.ThumbLoadMultiple := by
  intro s r rn list
  refine ⟨fun hu hr => ?_, tLdmia_completes⟩
  have hx := exec_tPop (s := s) hu
  rw [listBytes, popcount_pop] at hx
  cases r with
  | false => exact tPop_completes hx hr
  | true => exact tPop_interworks hx hr

end Sys2Proof.Machine
end

section
/-! PROOFS. User mode is confined (spec/60_exceptions.md R1150, R1151): every part of an instruction that User mode
executes leaves the mode, the masks, the banks, the saved statuses and the control registers alone, or has entered an
exception from a state in which the status and the program counter still stood: O8. -/

namespace Sys2Proof.Machine

open Sys2Proof Sys2Proof.Claims

/-! ### What confinement says -/

/-- What User mode may not change is as it was: the control word and the vector base, the banks, the saved statuses, and
of the status the mode and the two masks. -/
structure Confined (s t : State) : Prop where
  ctrl : t.ctrl = s.ctrl
  exceptionBase : t.exceptionBase = s.exceptionBase
  banks : KeepsBanks s t
  spsr : keepsSpsr [] s t
  status : ∀ i, i < 8 → i ≠ 5 → t.cpsr.getLsbD i = s.cpsr.getLsbD i

theorem Confined.refl (s : State) : Confined s s := 
  ⟨rfl, rfl, ⟨rfl, rfl, rfl, rfl, rfl⟩, fun _ _ => rfl, fun _ _ _ => rfl⟩

theorem Confined.trans {s t u : State} (h : Confined s t) (g : Confined t u) : Confined s u :=
  ⟨g.ctrl.trans h.ctrl, g.exceptionBase.trans h.exceptionBase, h.banks.trans g.banks,
    fun b hb => (g.spsr b hb).trans (h.spsr b hb), fun i hi h5 => (g.status i hi h5).trans (h.status i hi h5)⟩

/-- The mode is bits 4:0 of the status. -/
theorem Confined.curMode {s t : State} (h : Confined s t) : curMode t = curMode s := by
  apply BitVec.eq_of_getLsbD_eq
  intro i hi
  simp only [Machine.curMode, modeOf, BitVec.getLsbD_extractLsb', h.status (0 + i) (by omega) (by omega)]

theorem Confined.isUser {s t : State} (h : Confined s t) : isUser t = isUser s := by
  rw [Machine.isUser, h.curMode, Machine.isUser]

theorem Confined.flagI {s t : State} (h : Confined s t) : flagI t = flagI s := h.status 7 (by omega) (by omega)

theorem Confined.flagF {s t : State} (h : Confined s t) : flagF t = flagF s := h.status 6 (by omega) (by omega)

/-- Confined, and still where an exception may be raised: the status and the program counter are untouched, so that the
saved status and the return address are those of the instruction (R1104). -/
structure Steady (s t : State) : Prop extends Confined s t where
  cpsr : t.cpsr = s.cpsr
  pc : reg t 15#4 = reg s 15#4

theorem Steady.trans {s t u : State} (h : Steady s t) (g : Steady t u) : Steady s u :=
  ⟨h.toConfined.trans g.toConfined, g.cpsr.trans h.cpsr, g.pc.trans h.pc⟩

theorem Steady.refl (s : State) : Steady s s := ⟨.refl s, rfl, rfl⟩

/-- The exceptions an instruction can raise (R1104). -/
def raisedByInstructions : List Exc := [.undefined, .softwareInterrupt, .prefetchAbort, .dataAbort]

/-- An exception was entered from a state of the instruction. -/
def Raised (s t : State) : Prop :=
  ∃ k ∈ raisedByInstructions, ∃ u, Steady s u ∧ t = enterException u k (excReturn u k)

/-! ### The shared operations -/

section Operations
variable {s t : State}

/-- A change of other fields. -/
theorem Confined.update {u : State} (h : Confined s t) (hc : u.ctrl = t.ctrl) (he : u.exceptionBase = t.exceptionBase)
    (hb : KeepsBanks t u) (hs : keepsSpsr [] t u) (hp : u.cpsr = t.cpsr) : Confined s u :=
  h.trans ⟨hc, he, hb, hs, fun i _ _ => by rw [hp]⟩

theorem Confined.setReg (h : Confined s t) (i : Reg) (v : Word) : Confined s (setReg t i v) :=
  h.update rfl rfl ⟨rfl, rfl, rfl, rfl, rfl⟩ (fun _ _ => rfl) rfl

theorem Confined.writeback (h : Confined s t) (wb : Bool) (rn : Reg) (m : Word) : Confined s (writeback t wb rn m) := by
  cases wb with
  | true => exact h.setReg rn m
  | false => exact h

/-- The status replaced, with its mode and masks. -/
theorem Confined.setStatus (h : Confined s t) {w : Word}
    (hw : ∀ i, i < 8 → i ≠ 5 → w.getLsbD i = t.cpsr.getLsbD i) : Confined s { t with cpsr := w } :=
  h.trans ⟨rfl, rfl, ⟨rfl, rfl, rfl, rfl, rfl⟩, fun _ _ => rfl, hw⟩

theorem Confined.setFlags (h : Confined s t) {w : Word} (hw : SameControl t.cpsr w) : Confined s (setFlags t w) :=
  h.setStatus fun i hi _ => hw i (by omega)

/-- A jump changes the state bit of the status alone (R410). -/
theorem Confined.jumpTo (h : Confined s t) (v : Word) : Confined s (jumpTo t v) :=
  have j := jumpTo_frame t v
  h.trans ⟨j.system.ctrl, j.system.exceptionBase, j.banks, j.spsr, fun i _ h5 => j.status i (by simpa using h5)⟩

theorem CallsKeep.steady (k : CallsKeep s t) : Steady s t where
  ctrl := k.ctrl
  exceptionBase := k.exceptionBase
  banks := ⟨k.bankFiq, k.bankSvc, k.bankAbt, k.bankIrq, k.bankUnd⟩
  spsr b _ := by
    cases b with
    | fiq => exact k.spsrFiq
    | irq => exact k.spsrIrq
    | svc => exact k.spsrSvc
    | abt => exact k.spsrAbt
    | und => exact k.spsrUnd
  status i _ _ := by rw [k.cpsr]
  cpsr := k.cpsr
  pc := reg_congr k.regs _

/-- A register below the program counter written. -/
theorem Steady.setReg_ne (h : Steady s t) {i : Reg} (hi : i ≠ 15#4) (v : Word) : Steady s (Machine.setReg t i v) :=
  ⟨h.setReg i v, h.cpsr, (reg_setReg_ne t v hi.symm).trans h.pc⟩

theorem Steady.recordAccess (h : Steady s t) (a : Word) (n : Width) : Steady s (recordAccess t a n) :=
  ⟨h.update rfl rfl ⟨rfl, rfl, rfl, rfl, rfl⟩ (fun _ _ => rfl) rfl, h.cpsr, h.pc⟩

theorem Steady.busRead (h : Steady s t) (a : Word) (n : Nat) : Steady s (busRead t a n).2 :=
  h.trans (busRead_keeps t a n).steady

theorem Steady.busWrite (h : Steady s t) (a : Word) (n : Nat) (v : Word) : Steady s (busWrite t a n v) := by
  rcases busWrite_cases t a n v with ⟨f, -, hw⟩ | ⟨-, k⟩
  · rw [hw]
    exact ⟨h.update rfl rfl ⟨rfl, rfl, rfl, rfl, rfl⟩ (fun _ _ => rfl) rfl, h.cpsr, h.pc⟩
  · exact h.trans k.steady

end Operations

/-! ### Parts of instructions -/

/-- A part of an instruction that answers leaves `P`; an exception it entered was raised from the state `s`. -/
def Res.Leaves {α : Type} (s : State) (P : State → Prop) : Res α → Prop
  | .ok _ t => P t
  | .trap t => Raised s t
  | .fault _ => True

section Sequencing
variable {α β : Type} {s : State} {P Q : State → Prop} {r : Res α}

theorem Res.Leaves.bind {f : α → State → Res β} (h : r.Leaves s P) (hf : ∀ a t, P t → (f a t).Leaves s Q) :
    (r.bind f).Leaves s Q := by
  cases r with
  | ok a t => exact hf a t h
  | trap t => exact h
  | fault e => trivial

/-- A checked part runs only where the check passes. -/
theorem Res.Leaves.checkedOf {bad : Bool} {e : Fault} (h : bad = false → r.Leaves s P) :
    (unpredictableIf bad e r).Leaves s P := by
  cases bad with
  | false => exact h rfl
  | true => trivial

theorem Res.Leaves.checked {bad : Bool} {e : Fault} (h : r.Leaves s P) : (unpredictableIf bad e r).Leaves s P :=
  .checkedOf fun _ => h

theorem Res.Leaves.shouldBe {good : Bool} (h : r.Leaves s P) : (shouldBe good r).Leaves s P := h.checked

end Sequencing

section Parts
variable {s t : State}

theorem Steady.raise (h : Steady s t) {α : Type} {P : State → Prop} {k : Exc} (hk : k ∈ raisedByInstructions) :
    (raise t k : Res α).Leaves s P := ⟨k, hk, t, h, rfl⟩

theorem Confined.branchWritePc (h : Confined s t) (v : Word) : (branchWritePc t v).Leaves s (Confined s) := by
  unfold Machine.branchWritePc
  split
  · exact h.jumpTo _
  · exact .checked (h.jumpTo _)

theorem Confined.bxWritePc (h : Confined s t) (v : Word) : (bxWritePc t v).Leaves s (Confined s) :=
  .checked (h.jumpTo _)

/-- User mode has no saved status to return to (R1121): its return sets a mode bit that is set and jumps. -/
theorem Confined.exceptionReturn (h : Confined s t) (hu : Machine.isUser s = true) (v : Word) :
    (exceptionReturn t v).Leaves s (Confined s) := by
  have hm : Machine.curMode t = 0x10#5 := by rw [h.curMode]; exact beq_iff_eq.1 hu
  have h4 : t.cpsr.getLsbD 4 = true := by
    have hbit : (modeOf t.cpsr).getLsbD 4 = true := by rw [show modeOf t.cpsr = _ from hm]; rfl
    simpa [modeOf] using hbit
  have hr : (restoreSavedStatus t).Leaves s (Confined s) := by
    rw [restoreSavedStatus, hm]
    refine h.setStatus fun i _ _ => ?_
    rw [getLsbD_setBit]
    split
    next hi => rw [hi.1, h4]
    · rfl
  exact hr.bind fun _ _ hv => .checked (hv.jumpTo _)

theorem Steady.load (h : Steady s t) (a : Word) (n : Width) : (load t a n).Leaves s (Steady s) := by
  unfold Machine.load
  split
  · exact h.raise (by decide)
  · exact (h.recordAccess a n).busRead a n.bytes

theorem Steady.loadRotated (h : Steady s t) (a : Word) : (loadRotated t a).Leaves s (Steady s) :=
  (h.load _ .word).bind fun _ _ hv => hv

theorem Steady.store (h : Steady s t) (a : Word) (n : Width) (v : Word) : (store t a n v).Leaves s (Steady s) := by
  unfold Machine.store
  split
  · exact h.raise (by decide)
  · exact (h.recordAccess a n).busWrite a n.bytes v

/-- A multiple load of registers below the program counter (R680). -/
theorem Steady.loadRegs (h : Steady s t) {l : List Nat} (hl : ∀ i ∈ l, i < 15) (a : Word) :
    (loadEach Machine.setReg l a t).Leaves s (Steady s) := by
  induction l generalizing a t with
  | nil => exact h
  | cons i r ih =>
    exact (h.load a .word).bind fun v _ hv =>
      ih (hv.setReg_ne (ofNat_ne_pc (hl i List.mem_cons_self)) v) (fun j hj => hl j (List.mem_cons_of_mem _ hj)) _

theorem Steady.storeEach (h : Steady s t) (get : State → Reg → Word) (l : List Nat) (a : Word) :
    (storeEach get l a t).Leaves s (Steady s) := by
  induction l generalizing a t with
  | nil => exact h
  | cons i r ih => exact (h.store a .word _).bind fun _ _ hv => ih hv _

/-! ### Bodies that instructions share -/

theorem Confined.dataProc (h : Confined s t) (hu : Machine.isUser s = true) (op : DpOp) (sf : Bool) (rn rd : Reg)
    (o : ShiftOut) : (dataProc op sf rn rd o t).Leaves s (Confined s) := by
  unfold Machine.dataProc
  dsimp only
  split
  · split
    · exact h.exceptionReturn hu _
    · exact h.branchWritePc _
  · have ht : Confined s (if dpWrites op then Machine.setReg t rd (dpAlu op (reg t rn) o (flagC t)).value else t) := by
      split
      · exact h.setReg _ _
      · exact h
    split
    · exact ht.setFlags (sameControl_dpFlags _ _ _)
    · exact ht

/-- A part that needs a saved status faults in User mode (R540, R541). -/
theorem Confined.withSpsrBank (h : Confined s t) (hu : Machine.isUser s = true) (f : BankMode → Res Unit) :
    (withSpsrBank t f).Leaves s (Confined s) := by
  have hm : Machine.curMode t = 0x10#5 := by rw [h.curMode]; exact beq_iff_eq.1 hu
  rw [withSpsrBank_none f (by rw [hm]; rfl)]
  trivial

/-- An MSR in User mode writes the flags field alone (R541). -/
theorem Confined.msrWrite (h : Confined s t) (hu : Machine.isUser s = true) (r : Bool) (f : BitVec 4) (v : Word) :
    (msrWrite t r f v).Leaves s (Confined s) := by
  cases r with
  | true => exact h.withSpsrBank hu _
  | false =>
    have low : ∀ i, i < 24 → (merged t.cpsr v (cpsrMask true f)).getLsbD i = t.cpsr.getLsbD i := fun i hi => by
      have hf : msrTakes true f i = false := by simp [msrTakes, hi]
      rw [getLsbD_merged _ _ _ (by omega), getLsbD_cpsrMask true f (by omega), hf]
      rfl
    have hmode : Machine.curMode t = modeOf (merged t.cpsr v (cpsrMask true f)) := by
      apply BitVec.eq_of_getLsbD_eq
      intro i hi
      simp only [Machine.curMode, modeOf, BitVec.getLsbD_extractLsb', low (0 + i) (by omega)]
    rw [msrWrite_cpsr rfl, h.isUser, hu]
    refine .checked (.checked ?_)
    rw [replaceCpsr, ← hmode, switchMode, if_pos rfl]
    refine h.setStatus fun i hi _ => ?_
    rw [getLsbD_setBit, if_neg (by omega), low i (by omega)]

/-- A register and the flags written. -/
theorem Confined.setRegFlags (h : Confined s t) {i : Reg} {v w : Word} (hw : SameControl t.cpsr w) :
    (done (Machine.setFlags (Machine.setReg t i v) w)).Leaves s (Confined s) := (h.setReg i v).setFlags hw

theorem Confined.product32 (h : Confined s t) (sf : Bool) (rd : Reg) (r : Word) :
    (product32 t sf rd r).Leaves s (Confined s) := by
  unfold Machine.product32
  cases sf with
  | true => exact h.setRegFlags (sameControl_withNZ _ _)
  | false => exact h.setReg rd r

theorem Confined.product64 (h : Confined s t) (sf : Bool) (rdHi rdLo : Reg) (p : BitVec 64) :
    (product64 t sf rdHi rdLo p).Leaves s (Confined s) := by
  unfold Machine.product64
  cases sf with
  | true => exact (h.setReg rdLo _).setRegFlags (sameControl_withNZ64 _ _)
  | false => exact (h.setReg rdLo _).setReg rdHi _

theorem Confined.hiWrite (h : Confined s t) (rd : Reg) (v : Word) : (hiWrite t rd v).Leaves s (Confined s) := by
  unfold Machine.hiWrite
  split
  · exact h.branchWritePc v
  · exact h.setReg rd v

theorem Steady.mode4 (h : Steady s t) (p u : Bool) (rn : Reg) (list : BitVec 16) :
    (mode4 t p u rn list).Leaves s (Steady s) := .checked (.checked h)

/-- The user-bank transfers fault in User mode (R682, R685). -/
theorem Confined.userBank (h : Confined s t) (hu : Machine.isUser s = true) (b : Bool) {r : Res Unit} :
    (unpredictableIf (Machine.isUser t || b) .userBankMode r).Leaves s (Confined s) := by
  rw [h.isUser, hu]
  trivial

/-- CP15 is Undefined in User mode (R800). -/
theorem Steady.cp15Access (h : Steady s t) (hu : Machine.isUser s = true) (cp : BitVec 4) (r : Res Unit) :
    (cp15Access t cp r).Leaves s (Confined s) := by
  rw [cp15Access_undefined r (.inr (h.isUser.trans hu))]
  exact h.raise (by decide)

/-- Every load of one register (R652-R668). -/
theorem Steady.loadOf (h : Steady s t) (k : LoadKind) (rn rd : Reg) (x : Addr) :
    (loadOf k t rn rd x).Leaves s (Confined s) := by
  have hend : ∀ v u, Steady s u → (loadEnd k rn rd x v u).Leaves s (Confined s) := fun v u hv => by
    cases k with
    | word =>
      rw [loadEnd]
      split
      · exact .checked ((hv.writeback ..).bxWritePc _)
      · exact (hv.setReg _ _).writeback ..
    | byte | half | signedByte | signedHalf => exact (hv.setReg _ _).writeback ..
  rw [loadOf_eq]
  exact .checked ((h.load _ _).bind hend)

/-- Every store of one register (R654-R669). -/
theorem Steady.storeOf (h : Steady s t) (n : Width) (rn rd : Reg) (x : Addr) :
    (storeOf n t rn rd x).Leaves s (Confined s) := by
  rw [storeOf_eq]
  exact .checked ((h.store _ _ _).bind fun _ _ hv => hv.writeback ..)

/-- A pair is loaded where it does not hold the program counter (R670). -/
theorem Steady.loadDouble (h : Steady s t) (rm : Option Reg) (rn : Reg) {rd : Reg} (hd : rd ≠ 15#4) (x : Addr) :
    (loadDouble rm t rn rd x).Leaves s (Confined s) :=
  .checked (.checked (.checked ((h.load _ _).bind fun v _ hv => ((hv.setReg_ne hd v).load _ _).bind fun _ _ hw =>
    (hw.setReg _ _).writeback ..)))

theorem Steady.storeDouble (h : Steady s t) (rn rd : Reg) (x : Addr) :
    (storeDouble t rn rd x).Leaves s (Confined s) :=
  .checked ((h.store _ _ _).bind fun _ _ hv => (hv.store _ _ _).bind fun _ _ hw => hw.writeback ..)

theorem Res.Leaves.pairChecked {rd : Reg} {r : Res Unit} {P : State → Prop} (h : rd ≠ 15#4 → r.Leaves s P) :
    (pairChecked rd r).Leaves s P := .checkedOf fun hd => h (pair_ne_pc rd hd).1

theorem Steady.mode2Imm (h : Steady s t) (p u w : Bool) (rn rd : Reg) (imm : BitVec 12) :
    (mode2Imm t p u w rn rd imm).Leaves s (Steady s) := .checked (.checked h)

theorem Steady.mode2Reg (h : Steady s t) (p u w : Bool) (rn rd : Reg) (imm : BitVec 5) (st : BitVec 2) (rm : Reg) :
    (mode2Reg t p u w rn rd imm st rm).Leaves s (Steady s) := .checked (.checked (.checked (.checked h)))

theorem Steady.mode3Imm (h : Steady s t) (p u w : Bool) (rn rd : Reg) (hi lo : BitVec 4) :
    (mode3Imm t p u w rn rd hi lo).Leaves s (Steady s) := .checked (.checked (.checked h))

theorem Steady.mode3Reg (h : Steady s t) (p u w : Bool) (rn rd : Reg) (sbz : BitVec 4) (rm : Reg) :
    (mode3Reg t p u w rn rd sbz rm).Leaves s (Steady s) := .shouldBe (.checked (.checked (.checked (.checked h))))

end Parts

/-! ### Every instruction -/

/-- An instruction that ends in a next state has left it confined, or entered an exception. -/
def OutConfined (s : State) : Out → Prop
  | .next t => Confined s t ∨ ∃ u, Raised s u ∧ t = charged s u
  | .fault _ => True
  | .refused _ => True

section Out
variable {s : State} {body : State → Res Unit}

theorem OutConfined.run (hb : ∀ {t}, Steady s t → (body t).Leaves s (Confined s)) : OutConfined s (run s body) := by
  have hbegun : Steady s (begun s) :=
    ⟨(Confined.refl s).update rfl rfl ⟨rfl, rfl, rfl, rfl, rfl⟩ (fun _ _ => rfl) rfl, rfl, rfl⟩
  have h := hb hbegun
  unfold Machine.run
  cases hr : body (begun s) with
  | ok a t =>
    rw [hr] at h
    exact .inl (Confined.update h rfl rfl ⟨rfl, rfl, rfl, rfl, rfl⟩ (fun _ _ => rfl) rfl)
  | trap t =>
    rw [hr] at h
    exact .inr ⟨t, h, rfl⟩
  | fault f => trivial

theorem OutConfined.skipped (s : State) : OutConfined s (.next (chargeFetch s)) :=
  .inl ((Confined.refl s).update rfl rfl ⟨rfl, rfl, rfl, rfl, rfl⟩ (fun _ _ => rfl) rfl)

theorem OutConfined.runIf {c : BitVec 4} (hb : ∀ {t}, Steady s t → (body t).Leaves s (Confined s)) :
    OutConfined s (runIf c s body) := by
  unfold Machine.runIf
  split
  · exact .run hb
  · exact .skipped s

end Out

/-- Every instruction in User mode: each row through the shared operation its meaning ends in. -/
theorem exec_confined (i : Instr) {s : State} (hu : isUser s = true) : OutConfined s (exec i s) := by
  unfold exec
  cases i with dsimp only
  -- data processing
  | andImmShift | eorImmShift | subImmShift | rsbImmShift | addImmShift | adcImmShift | sbcImmShift | rscImmShift
  | orrImmShift | bicImmShift | andImm | eorImm | subImm | rsbImm | addImm | adcImm | sbcImm | rscImm | orrImm
  | bicImm => exact .runIf fun h => h.dataProc hu ..
  | tstImmShift | teqImmShift | cmpImmShift | cmnImmShift | movImmShift | mvnImmShift | tstImm | teqImm | cmpImm
  | cmnImm | movImm | mvnImm => exact .runIf fun h => .shouldBe (h.dataProc hu ..)
  | andRegShift | eorRegShift | subRegShift | rsbRegShift | addRegShift | adcRegShift | sbcRegShift | rscRegShift
  | orrRegShift | bicRegShift => exact .runIf fun h => .checked (h.dataProc hu ..)
  | tstRegShift | teqRegShift | cmpRegShift | cmnRegShift | movRegShift | mvnRegShift =>
    exact .runIf fun h => .shouldBe (.checked (h.dataProc hu ..))
  -- status access and saturating arithmetic
  | mrs =>
    refine .runIf fun h => .shouldBe (.checked ?_)
    split
    · exact h.withSpsrBank hu _
    · exact h.setReg _ _
  | msrReg => exact .runIf fun h => .shouldBe (.checked (h.msrWrite hu ..))
  | msrImm => exact .runIf fun h => .shouldBe (h.msrWrite hu ..)
  | clz => exact .runIf fun h => .shouldBe (.checked (h.setReg ..))
  | qadd | qsub | qdadd | qdsub =>
    exact .runIf fun h => .shouldBe (.checked (h.setRegFlags (sameControl_withQ _ _)))
  -- multiplies
  | mul => exact .runIf fun h => .shouldBe (.checked (.checked (h.product32 ..)))
  | mla => exact .runIf fun h => .checked (.checked (h.product32 ..))
  | umull | umlal | smull | smlal => exact .runIf fun h => .checked (.checked (.checked (h.product64 ..)))
  | smlaXY | smlawY => exact .runIf fun h => .checked (h.setRegFlags (sameControl_withQ _ _))
  | smulwY | smulXY => exact .runIf fun h => .shouldBe (.checked (h.setReg ..))
  | smlalXY => exact .runIf fun h => .checked (.checked (h.product64 ..))
  -- swap
  | swp =>
    exact .runIf fun h => .shouldBe (.checked (.checked ((h.loadRotated _).bind fun _ _ hv =>
      (hv.store ..).bind fun _ _ hw => hw.setReg ..)))
  | swpb =>
    exact .runIf fun h => .shouldBe (.checked (.checked ((h.load ..).bind fun _ _ hv =>
      (hv.store ..).bind fun _ _ hw => hw.setReg ..)))
  -- addressing mode 2
  | ldrImmPre | ldrImmPost => exact .runIf fun h => (h.mode2Imm ..).bind fun _ _ hx => hx.loadOf .word ..
  | ldrRegPre | ldrRegPost => exact .runIf fun h => (h.mode2Reg ..).bind fun _ _ hx => hx.loadOf .word ..
  | ldrtImm => exact .runIf fun h => .checked ((h.mode2Imm ..).bind fun _ _ hx => hx.loadOf .word ..)
  | ldrtReg => exact .runIf fun h => .checked ((h.mode2Reg ..).bind fun _ _ hx => hx.loadOf .word ..)
  | ldrbImmPre | ldrbImmPost | ldrbtImm =>
    exact .runIf fun h => .checked ((h.mode2Imm ..).bind fun _ _ hx => hx.loadOf .byte ..)
  | ldrbRegPre | ldrbRegPost | ldrbtReg =>
    exact .runIf fun h => .checked ((h.mode2Reg ..).bind fun _ _ hx => hx.loadOf .byte ..)
  | strImmPre | strImmPost | strtImm =>
    exact .runIf fun h => (h.mode2Imm ..).bind fun _ _ hx => hx.storeOf .word ..
  | strRegPre | strRegPost | strtReg =>
    exact .runIf fun h => (h.mode2Reg ..).bind fun _ _ hx => hx.storeOf .word ..
  | strbImmPre | strbImmPost | strbtImm =>
    exact .runIf fun h => .checked ((h.mode2Imm ..).bind fun _ _ hx => hx.storeOf .byte ..)
  | strbRegPre | strbRegPost | strbtReg =>
    exact .runIf fun h => .checked ((h.mode2Reg ..).bind fun _ _ hx => hx.storeOf .byte ..)
  -- addressing mode 3
  | strhImm => exact .runIf fun h => .checked ((h.mode3Imm ..).bind fun _ _ hx => hx.storeOf .half ..)
  | strhReg => exact .runIf fun h => .checked ((h.mode3Reg ..).bind fun _ _ hx => hx.storeOf .half ..)
  | ldrdImm => exact .runIf fun h => .pairChecked fun hd => (h.mode3Imm ..).bind fun _ _ hx => hx.loadDouble _ _ hd _
  | ldrdReg => exact .runIf fun h => .pairChecked fun hd => (h.mode3Reg ..).bind fun _ _ hx => hx.loadDouble _ _ hd _
  | strdImm => exact .runIf fun h => .checked ((h.mode3Imm ..).bind fun _ _ hx => hx.storeDouble ..)
  | strdReg => exact .runIf fun h => .checked ((h.mode3Reg ..).bind fun _ _ hx => hx.storeDouble ..)
  | ldrhImm => exact .runIf fun h => .checked ((h.mode3Imm ..).bind fun _ _ hx => hx.loadOf .half ..)
  | ldrhReg => exact .runIf fun h => .checked ((h.mode3Reg ..).bind fun _ _ hx => hx.loadOf .half ..)
  | ldrsbImm => exact .runIf fun h => .checked ((h.mode3Imm ..).bind fun _ _ hx => hx.loadOf .signedByte ..)
  | ldrsbReg => exact .runIf fun h => .checked ((h.mode3Reg ..).bind fun _ _ hx => hx.loadOf .signedByte ..)
  | ldrshImm => exact .runIf fun h => .checked ((h.mode3Imm ..).bind fun _ _ hx => hx.loadOf .signedHalf ..)
  | ldrshReg => exact .runIf fun h => .checked ((h.mode3Reg ..).bind fun _ _ hx => hx.loadOf .signedHalf ..)
  -- multiple transfers
  | ldm1 =>
    refine .runIf fun h => (h.mode4 ..).bind fun _ _ hx =>
      .checked ((hx.loadRegs (fun _ hi => listed_lt hi) _).bind fun _ _ hv => ?_)
    split
    · exact (hv.load ..).bind fun _ _ hw => (hw.writeback ..).bxWritePc _
    · exact hv.writeback ..
  | ldm2 | stm2 => exact .runIf fun h => (h.mode4 ..).bind fun _ _ hx => .checked (hx.userBank hu _)
  | ldm3 =>
    exact .runIf fun h => (h.mode4 ..).bind fun _ _ hx =>
      .checked ((hx.loadRegs (fun _ hi => listed_lt hi) _).bind fun _ _ hv => (hv.load ..).bind fun _ _ hw =>
        (hw.writeback ..).exceptionReturn hu _)
  | stm1 =>
    exact .runIf fun h => (h.mode4 ..).bind fun _ _ hx => .checked ((hx.storeEach ..).bind fun _ _ hv =>
      hv.writeback ..)
  -- branches and exceptions
  | b | tBCond => exact .runIf fun h => h.branchWritePc _
  | bl => exact .runIf fun h => (h.setReg ..).branchWritePc _
  | blxImm | tBlxSuffix => exact .run fun h => (h.setReg ..).jumpTo _
  | bx => exact .runIf fun h => .shouldBe (h.bxWritePc _)
  | bxj => exact .runIf fun h => .shouldBe (.checked (h.bxWritePc _))
  | blxReg => exact .runIf fun h => .shouldBe (.checked ((h.setReg ..).bxWritePc _))
  | bkpt => exact .runIf fun h => .checked (h.raise (by decide))
  | swi | ldcPre | ldcPost | ldcUnindexed | stcPre | stcPost | stcUnindexed | mcrr | mrrc | cdp | undefMulSpace01
  | undefSwapSpaceA | undefSwapSpaceB | undefSwapSpaceC | undefMisc0001 | undefMisc0010A | undefMisc0010B
  | undefMisc0011A | undefMisc0011B | undefMisc0100 | undefMisc0110 | undefMisc0111A | undefMisc0111B
  | undefMsrImmSpace | undefLsRegBit4 | undefCpLsSpace => exact .runIf fun h => h.raise (by decide)
  | tSwi | tBkpt | tUndefB1 | tUndefB2B3 | tUndefB6B7 | tUndefB8Bb | tUndefBf | tUndefCondE | tUndefBlxOdd =>
    exact .run fun h => h.raise (by decide)
  -- the system-control coprocessor
  | mcr | mrc => exact .runIf fun h => h.cp15Access hu _ _
  | pldImm | pldReg | cdp2 | mcr2 | mrc2 | ldc2 | stc2 | nvSkipped => exact .skipped s
  -- Thumb data processing
  | tLslImm | tLsrImm | tAsrImm | tLslReg | tLsrReg | tAsrReg | tRor =>
    exact .run fun h => h.setRegFlags (sameControl_withNZC _ _ _)
  | tAddReg | tSubReg | tAddImm3 | tSubImm3 | tAddImm8 | tSubImm8 | tAdc | tSbc | tNeg =>
    exact .run fun h => h.setRegFlags (sameControl_withNZCV _ _ _ _)
  | tMovImm | tAnd | tEor | tOrr | tBic | tMvn => exact .run fun h => h.setRegFlags (sameControl_withNZ _ _)
  | tCmpImm | tCmpReg | tCmn => exact .run fun h => h.setFlags (sameControl_withNZCV _ _ _ _)
  | tTst => exact .run fun h => h.setFlags (sameControl_withNZ _ _)
  | tMul => exact .run fun h => .checked (h.setRegFlags (sameControl_withNZ _ _))
  | tAddHi | tMovHi => exact .run fun h => .checked (h.hiWrite ..)
  | tCmpHi => exact .run fun h => .checked (h.setFlags (sameControl_withNZCV _ _ _ _))
  | tBx => exact .run fun h => .shouldBe (h.bxWritePc _)
  | tBlxReg => exact .run fun h => .shouldBe (.checked ((h.setReg ..).bxWritePc _))
  | tAddPc | tAddSp | tAddSpImm | tSubSpImm | tBlPrefix => exact .run fun h => h.setReg ..
  | tB => exact .run fun h => h.branchWritePc _
  | tBlSuffix => exact .run fun h => (h.setReg ..).branchWritePc _
  -- Thumb loads and stores
  | tLdrPc | tLdrReg | tLdrImm | tLdrSp => exact .run fun h => h.loadOf .word ..
  | tStrReg | tStrImm | tStrSp => exact .run fun h => h.storeOf .word ..
  | tStrhReg | tStrhImm => exact .run fun h => h.storeOf .half ..
  | tStrbReg | tStrbImm => exact .run fun h => h.storeOf .byte ..
  | tLdrsbReg => exact .run fun h => h.loadOf .signedByte ..
  | tLdrhReg | tLdrhImm => exact .run fun h => h.loadOf .half ..
  | tLdrbReg | tLdrbImm => exact .run fun h => h.loadOf .byte ..
  | tLdrshReg => exact .run fun h => h.loadOf .signedHalf ..
  | tPush => exact .run fun h => .checked ((h.storeEach ..).bind fun _ _ hv => hv.setReg ..)
  | tPop =>
    refine .run fun h => .checked ((h.loadRegs (fun _ hi => (listed_lt hi).trans (by decide)) _).bind fun _ _ hv => ?_)
    split
    · exact (hv.load ..).bind fun _ _ hw => (hw.setReg ..).bxWritePc _
    · exact hv.setReg ..
  | tStmia => exact .run fun h => .checked (.checked ((h.storeEach ..).bind fun _ _ hv => hv.setReg ..))
  | tLdmia =>
    exact .run fun h => .checked ((h.loadRegs (fun _ hi => thumbList_lt hi) _).bind fun _ _ hv => hv.writeback ..)

/-! ### The exception an instruction entered (R1103, R1104) -/

/-- Every vector is word-aligned (R1103, R126). -/
theorem alignWord_vector {s : State} (h : vectorsDerived s) (k : Exc) :
    alignWord (s.exceptionBase + excOffset k) = s.exceptionBase + excOffset k := by
  rw [h, vectorBase]
  split <;> cases k <;> rfl

/-- The return address depends on the program counter and the state bit alone (R405, R1104). -/
theorem Steady.returnAddress {s t : State} (h : Steady s t) (k : Exc) :
    Claims.returnAddress t k = Claims.returnAddress s k := by
  have ht : flagT t = flagT s := by rw [flagT, h.cpsr, flagT]
  cases k <;> simp only [Claims.returnAddress, h.pc, ht]

/-- No instruction's exception masks F (R1104). -/
theorem excMasksF_of_raised {k : Exc} (h : k ∈ raisedByInstructions) (p : Params) : excMasksF p k = false := by
  cases k with
  | undefined | softwareInterrupt | prefetchAbort | dataAbort => rfl
  | reset | irq | fiq => exact absurd h (by decide)

/-- An exception raised from the state `s` is entered with the status and the return address of `s`. -/
theorem Raised.entered {s t : State} (h : Raised s t) (hv : vectorsDerived s) :
    ∃ k ∈ raisedByInstructions, ∃ u, Steady s u ∧ vectorsDerived u ∧ Entered k (returnAddress s k) u t := by
  obtain ⟨k, hk, u, hu, rfl⟩ := h
  have hvu : vectorsDerived u := by rw [vectorsDerived, hu.exceptionBase, hu.ctrl]; exact hv
  refine ⟨k, hk, u, hu, hvu, ?_⟩
  rw [excReturn_eq_returnAddress, hu.returnAddress]
  exact enterException_entered hvu k _

/-- Settles O8: an instruction leaves the state confined, or has entered an exception from a state that still had the
status and the program counter it began with. -/
theorem userModeIsConfined : Obligations.UserModeIsConfined := by
  intro i s t _ hv hu hx
  have h := exec_confined i hu
  rw [hx] at h
  rcases h with h | ⟨e, he, rfl⟩
  · exact ⟨h.ctrl, h.exceptionBase, .inl ⟨h.isUser.trans hu, h.flagI, h.flagF, h.banks, h.spsr⟩⟩
  · obtain ⟨k, hk, u, hs, hvu, hent⟩ := he.entered hv
    have hc := hent.charged s
    refine ⟨hc.system.ctrl.trans hs.ctrl, hc.system.exceptionBase.trans hs.exceptionBase, .inr ⟨k, hk, hc.mode,
      hc.irqMasked, ?_, hc.armState, hc.saved.trans hs.cpsr, fun b hb => ?_, hc.link, ?_⟩⟩
    · rw [hc.fiqMask, excMasksF_of_raised hk, Bool.false_or, hs.flagF]
    · exact (hc.otherSpsr b hb).trans (hs.spsr b (by simp))
    · rw [hc.pc, alignWord_vector hvu, hs.exceptionBase]

end Sys2Proof.Machine
end

section
/-! PROOFS. Exception entry by the exception table, IRQ dispatch and the soft reset (spec/60_exceptions.md R1103-R1106,
R1112): O42; and what a core reset leaves (spec/70_reset_and_hazards.md R1300, R1301): O59. -/

namespace Sys2Proof.Machine

open Sys2Proof Sys2Proof.Claims

/-! ### The exception table (R1104) -/

/-- Every kind has a row. -/
theorem excTable_covers (p : Params) (k : Exc) : ∃ r ∈ excTable p, r.kind = k := by
  cases k <;> simp [excTable]

/-- A row of the table holds what the model's own functions say of its kind. -/
theorem excTable_row {p : Params} {r : ExcRow} (h : r ∈ excTable p) :
    excOffset r.kind = r.offset ∧ bankMode (excBank r.kind) = r.mode ∧ excMasksF p r.kind = r.masksF := by
  simp only [excTable, List.mem_cons, List.not_mem_nil, or_false] at h
  rcases h with rfl | rfl | rfl | rfl | rfl | rfl | rfl <;> exact ⟨rfl, rfl, rfl⟩

/-- The link of an IRQ dispatch is 4 past the next instruction, and that is one width before the program counter
(R1105). -/
theorem irqLink_eq (s : State) :
    reg s 15#4 - (instrWidth s).size + 4#32 = reg s 15#4 + if flagT s then 2#32 else 0#32 := by
  unfold instrWidth Width.size
  cases flagT s with
  | true =>
    show reg s 15#4 - 2#32 + 4#32 = reg s 15#4 + 2#32
    bv_omega
  | false =>
    show reg s 15#4 - 4#32 + 4#32 = reg s 15#4 + 0#32
    bv_omega

/-- Settles O42: entry is `Entered` for every kind, and the dispatch and the soft reset are entries. -/
theorem exceptionEntry : Obligations.ExceptionEntry := by
  intro s hv
  refine ⟨enterException_entered hv, excTable_covers s.params, fun r hr ret => ?_, ?_,
    enterException_entered (s := { s with draws := s.draws + 1 }) hv .reset _⟩
  · obtain ⟨hoffset, hmode, hmask⟩ := excTable_row hr
    have he := enterException_entered hv r.kind ret
    exact ⟨hoffset, hmode, hmask, he.mode.trans hmode, by rw [he.pc, alignWord_vector hv, hoffset], he.link,
      he.irqMasked, by rw [he.fiqMask, hmask], he.armState⟩
  · exact ⟨_, enterException_entered hv .irq _, by rw [dispatchIrq, irqLink_eq]⟩

/-! ### Core reset (R1300, R1301) -/

section CoreReset
variable (s : State)

theorem reg_clearedBlock (i : Reg) : reg (clearedBlock s) i = 0#32 := by
  simp [reg, clearedBlock, Vector.get_eq_getElem]

/-- The jump of the reset keeps the cleared banks. -/
theorem bankReg_coreReset (b : BankMode) (i : Reg) :
    bankReg (coreReset s) b i = none ∨ bankReg (coreReset s) b i = some 0#32 := by
  have hk := jumpTo_keep (clearedBlock s) s.params.resetPc
  have hzero : ∀ (c : Prop) [Decidable c] (n j : Nat),
      (if c then (Vector.replicate n 0#32)[j]? else none) = none ∨
        (if c then (Vector.replicate n 0#32)[j]? else none) = some 0#32 := fun c _ n j => by
    rw [Vector.getElem?_replicate]
    split_ifs
    · exact .inr rfl
    · exact .inl rfl
    · exact .inl rfl
  cases b <;> simp only [bankReg, coreReset, hk.bankFiq, hk.bankIrq, hk.bankSvc, hk.bankAbt, hk.bankUnd] <;>
    exact hzero _ _ _

/-- The status of the reset with the state that bit 0 of the reset address selects (R410). -/
theorem coreReset_cpsr : (coreReset s).cpsr = if s.params.resetPc.getLsbD 0 then 0x000000F3#32 else 0x000000D3#32 := by
  have hc : (clearedBlock s).cpsr = 0x000000D3#32 := rfl
  rw [coreReset, jumpTo_cpsr, hc]
  cases s.params.resetPc.getLsbD 0 <;> rfl

theorem coreReset_status :
    curMode (coreReset s) = 0x13#5 ∧ flagI (coreReset s) = true ∧ flagF (coreReset s) = true := by
  rw [curMode, flagI, flagF, coreReset_cpsr]
  cases s.params.resetPc.getLsbD 0 <;> exact ⟨rfl, rfl, rfl⟩

theorem coreReset_pc : reg (coreReset s) 15#4 =
    if s.params.resetPc.getLsbD 0 then alignHalf s.params.resetPc + 2#32 else alignWord s.params.resetPc + 4#32 :=
  jumpTo_pc _ _

end CoreReset

/-- Settles O59: the cleared block, and the jump to the reset address. -/
theorem coreResetState : Obligations.CoreResetState := by
  intro s
  obtain ⟨hm, hi, hf⟩ := coreReset_status s
  have hreg : ∀ i, i ≠ 15#4 → reg (coreReset s) i = 0#32 := fun i h =>
    ((jumpTo_keep (clearedBlock s) s.params.resetPc).regs i h).trans (reg_clearedBlock s i)
  refine ⟨hm, hi, hf, hreg, bankReg_coreReset s, reg_clearedBlock s _, fun h => ?_, fun h => ?_⟩
  · rw [coreReset_cpsr, coreReset_pc, h]
    exact ⟨rfl, rfl⟩
  · rw [coreReset_cpsr, coreReset_pc, h]
    exact ⟨rfl, rfl⟩

end Sys2Proof.Machine
end

section
/-! PROOFS. The operations of the interrupt controller (spec/60_exceptions.md R1201-R1205): O56. -/

namespace Sys2Proof.Machine

open Sys2Proof Sys2Proof.Claims

/-! ### The scan (R1202) -/

/-- What is found first in an ascending list is the least of what qualifies. -/
theorem le_of_find?_ascending {α : Type} [LinearOrder α] {l : List α} {p : α → Bool} {a b : α}
    (hl : l.Pairwise (· < ·)) (h : l.find? p = some a) (hb : b ∈ l) (hp : p b = true) : a ≤ b := by
  obtain ⟨-, before, after, rfl, hn⟩ := List.find?_eq_some_iff_append.1 h
  rw [List.pairwise_append, List.pairwise_cons] at hl
  obtain ⟨-, ⟨hafter, -⟩, -⟩ := hl
  rcases List.mem_append.1 hb with hb | hb
  · exact absurd hp (by simpa using hn b hb)
  · rcases List.mem_cons.1 hb with rfl | hb
    · exact le_refl _
    · exact (hafter b hb).le

/-- The levels the scan walks, in order. -/
def scanLevels (c : Intc) : List Nat := (List.range 16).filter fun p => p < c.threshold

theorem scanLevels_ascending (c : Intc) : (scanLevels c).Pairwise (· < ·) := List.pairwise_lt_range.filter _

section Scan
variable {s : State}

/-- A line may latch at a level where the scan, which knows 16 levels, finds it to qualify. -/
theorem mayLatch_iff {p : Nat} {l : Fin 40} :
    mayLatch s p l ↔ p ∈ scanLevels s.intc ∧ lineQualifies s.params.ctlEncoding s.intc p l = true := by
  simp only [mayLatch, scanLevels, lineQualifies, List.mem_filter, List.mem_range, decide_eq_true_eq,
    Bool.and_eq_true, Bool.not_eq_true', beq_iff_eq]
  constructor
  · rintro ⟨ht, hpend, hen, hdis, rfl⟩
    exact ⟨⟨(ctlPrio _ _).isLt, ht⟩, ⟨⟨hpend, hen⟩, hdis⟩, rfl⟩
  · rintro ⟨⟨-, ht⟩, ⟨⟨hpend, hen⟩, hdis⟩, hp⟩
    exact ⟨ht, hpend, hen, hdis, hp⟩

/-- The scan finds the least level at which a line may latch, and the lowest such line. -/
theorem scanLines_least {l : Fin 40} (h : scanLines s.params.ctlEncoding s.intc = some l) :
    ∃ p, mayLatch s p l ∧ ∀ q m, mayLatch s q m → p < q ∨ (p = q ∧ l ≤ m) := by
  obtain ⟨before, p, after, hlevels, hfind, hnone⟩ := List.findSome?_eq_some_iff.1 h
  change scanLevels s.intc = _ at hlevels
  have hasc := scanLevels_ascending s.intc
  rw [hlevels, List.pairwise_append, List.pairwise_cons] at hasc
  obtain ⟨-, ⟨hafter, -⟩, -⟩ := hasc
  refine ⟨p, mayLatch_iff.2 ⟨by simp [hlevels], List.find?_some hfind⟩, fun q m hq => ?_⟩
  obtain ⟨hmem, hqual⟩ := mayLatch_iff.1 hq
  rw [hlevels, List.mem_append, List.mem_cons] at hmem
  rcases hmem with hq | rfl | hq
  · exact absurd hqual (List.find?_eq_none.1 (hnone q hq) m (List.mem_finRange m))
  · exact .inr ⟨rfl, le_of_find?_ascending (List.pairwise_lt_finRange 40) hfind (List.mem_finRange m) hqual⟩
  · exact .inl (hafter q hq)

/-- A scan that finds nothing leaves no line that may latch. -/
theorem scanLines_none (h : scanLines s.params.ctlEncoding s.intc = none) (q : Nat) (m : Fin 40) :
    ¬ mayLatch s q m := fun hq =>
  have ⟨hmem, hqual⟩ := mayLatch_iff.1 hq
  List.find?_eq_none.1 (List.findSome?_eq_none_iff.1 h q hmem) m (List.mem_finRange m) hqual

/-! ### `UpdateIRQ` (R1202, R1203) -/

theorem updateIrq_of_latched {l : Fin 40} (h : s.intc.latched = some l) : updateIrq s = s := by rw [updateIrq, h]

theorem updateIrq_of_none (h : s.intc.latched = none) : updateIrq s =
    { s with intc := { s.intc with latched := scanLines s.params.ctlEncoding s.intc }
             irqLine := (scanLines s.params.ctlEncoding s.intc).isSome } := by
  have hi : { s.intc with latched := none } = s.intc := by rw [← h]
  rw [updateIrq, h]
  cases scanLines s.params.ctlEncoding s.intc with
  | some l => rfl
  | none => rw [hi]; rfl

/-- `UpdateIRQ` changes the latch and the signal alone. -/
theorem updateIrq_latch (s : State) : updateIrq s =
    { s with intc := { s.intc with latched := (updateIrq s).intc.latched }, irqLine := (updateIrq s).irqLine } := by
  cases h : s.intc.latched with
  | some l => rw [updateIrq_of_latched h]
  | none => rw [updateIrq_of_none h]

theorem updateIrq_ctl (s : State) : (updateIrq s).intc.ctl = s.intc.ctl := by rw [updateIrq_latch]

theorem updateIrq_threshold (s : State) : (updateIrq s).intc.threshold = s.intc.threshold := by rw [updateIrq_latch]

theorem updateIrq_onlyIntc (s : State) : onlyIntc s (updateIrq s) := by
  unfold onlyIntc
  rw [updateIrq_latch]

/-- What is latched afterwards, and the signal with it, where nothing was. -/
theorem updateIrq_latches (h : s.intc.latched = none) :
    (∀ l, (updateIrq s).intc.latched = some l → (updateIrq s).irqLine = true ∧
      ∃ p, mayLatch s p l ∧ ∀ q m, mayLatch s q m → p < q ∨ (p = q ∧ l ≤ m)) ∧
    ((updateIrq s).intc.latched = none → (updateIrq s).irqLine = false ∧ ∀ q m, ¬ mayLatch s q m) := by
  rw [updateIrq_of_none h]
  exact ⟨fun l hl => ⟨congrArg Option.isSome hl, scanLines_least hl⟩,
    fun hn => ⟨congrArg Option.isSome hn, scanLines_none hn⟩⟩

end Scan

/-! ### `SetIRQ`, `AcknowledgeIRQ` and `WriteCtl` (R1201, R1204, R1205) -/

section Operations
variable {s : State} {line : Nat}

theorem setIrq_out_of_range (h : 40 ≤ line) : setIrq s line = s := dif_neg (by omega)

theorem setIrq_disabled (h : line < 40)
    (hd : ctlDisable s.params.ctlEncoding (s.intc.ctl.get ⟨line, h⟩) = true) : setIrq s line = s := by
  rw [setIrq, dif_pos h, if_pos hd]

theorem setIrq_enabled (h : line < 40)
    (hd : ctlDisable s.params.ctlEncoding (s.intc.ctl.get ⟨line, h⟩) = false) : setIrq s line =
      updateIrq { s with intc := { s.intc with pending := setBit s.intc.pending line true } } := by
  rw [setIrq, dif_pos h, hd]
  rfl

theorem writeCtl_out_of_range (h : 40 ≤ line) (b : Byte) : writeCtl s line b = s := dif_neg (by omega)

theorem writeCtl_in_range (h : line < 40) (b : Byte) :
    writeCtl s line b = updateIrq { s with intc := { s.intc with ctl := s.intc.ctl.set line b h } } := dif_pos h

theorem acknowledgeIrq_of_none (h : s.intc.latched = none) (t : Nat) :
    acknowledgeIrq s t = { s with intc := { s.intc with threshold := t } } := by rw [acknowledgeIrq, h]

theorem acknowledgeIrq_of_latched {l : Fin 40} (h : s.intc.latched = some l) (t : Nat) :
    acknowledgeIrq s t = updateIrq { s with
      intc := { s.intc with threshold := t, pending := setBit s.intc.pending l false, latched := none }
      irqLine := false } := by rw [acknowledgeIrq, h]

/-- A line set among the 64 pending bits. -/
theorem getLsbD_setPending (p : BitVec 64) (h : line < 40) (i : Nat) :
    (setBit p line true).getLsbD i = (p.getLsbD i || decide (i = line)) := by
  rw [getLsbD_setBit]
  by_cases hi : i = line
  · simp [hi, show line < 64 by omega]
  · simp [hi]

/-- A line cleared among the 64 pending bits. -/
theorem getLsbD_clearPending (p : BitVec 64) (h : line < 40) (i : Nat) :
    (setBit p line false).getLsbD i = (p.getLsbD i && !decide (i = line)) := by
  rw [getLsbD_setBit]
  by_cases hi : i = line
  · simp [hi, show line < 64 by omega]
  · simp [hi]

end Operations

/-- Settles O56: the scan for `UpdateIRQ`, which the other three run on the state they have changed. -/
theorem controllerOperations : Obligations.ControllerOperations := by
  intro s
  refine ⟨updateIrq_onlyIntc s, updateIrq_ctl s, updateIrq_pending s, updateIrq_threshold s,
    fun l => updateIrq_of_latched, updateIrq_latches, fun line t b => ⟨fun h => ?_, fun h => ⟨?_, fun hd => ?_, ?_⟩,
      fun h => acknowledgeIrq_of_none h t, fun l hl => ?_⟩⟩
  · exact ⟨setIrq_out_of_range h, writeCtl_out_of_range h b⟩
  · exact setIrq_disabled h
  · exact ⟨_, setIrq_enabled h hd, rfl, getLsbD_setPending _ h⟩
  · rw [writeCtl_in_range h]
    exact ⟨updateIrq_pending _, updateIrq_ctl _, _, rfl, rfl⟩
  · exact ⟨_, acknowledgeIrq_of_latched hl t, rfl, rfl, rfl, rfl, rfl, getLsbD_clearPending _ l.isLt⟩

end Sys2Proof.Machine
end

section
/-! PROOFS. Scheduling, cancelling and the next wake time (spec/60_exceptions.md R1210-R1212, R1215): O57. -/

namespace Sys2Proof.Machine

open Sys2Proof Sys2Proof.Claims

/-! ### Slots by id (R1210, R1211) -/

section Slots
variable {s : State} {id : Nat}

/-- An update by id is seen at that id and at no other. -/
theorem eventSlot_updateSlot (s : State) (id : Nat) {f : EventSlot → EventSlot} (hf : ∀ e, (f e).id = e.id) (j : Nat) :
    eventSlot (updateSlot s id f) j = if j = id then (eventSlot s id).map f else eventSlot s j := by
  have hid : ∀ e : EventSlot, (if e.id == id then f e else e).id = e.id := fun e => by
    split
    · exact hf e
    · rfl
  have hfind : eventSlot (updateSlot s id f) j = (eventSlot s j).map fun e => if e.id == id then f e else e := by
    simp only [eventSlot, updateSlot, List.find?_map, Function.comp_def, hid]
  rw [hfind]
  cases he : eventSlot s j with
  | none =>
    split
    next h => rw [← h, he]; rfl
    · rfl
  | some e =>
    have hej : e.id = j := by simpa using List.find?_some he
    split
    next h => rw [← h, he, Option.map_some, Option.map_some, if_pos (by simp [hej, h])]
    next h => rw [Option.map_some, if_neg (by simp [hej, h])]

/-- An update at an id without a slot changes nothing. -/
theorem updateSlot_of_none (h : eventSlot s id = none) (f : EventSlot → EventSlot) : updateSlot s id f = s := by
  have hmap : (s.sched.slots.map fun e => if e.id == id then f e else e) = s.sched.slots := by
    conv_rhs => rw [← List.map_id s.sched.slots]
    exact List.map_congr_left fun e he => if_neg (List.find?_eq_none.1 h e he)
  rw [updateSlot, hmap]

theorem scheduleEvent_of_none (h : eventSlot s id = none) (k : EventKind) (d cb : Nat) (p : Word) :
    scheduleEvent s id k d cb p = s := by rw [scheduleEvent, h]

theorem scheduleEvent_of_pending {e : EventSlot} (h : eventSlot s id = some e) (hp : e.pending = true) (k : EventKind)
    (d cb : Nat) (p : Word) : scheduleEvent s id k d cb p = s := by
  rw [scheduleEvent, h]
  exact if_pos hp

/-- An accepted schedule sets the slot of its id, and marks the id as scheduled in the pass (R1210). -/
theorem scheduleEvent_accepted {e : EventSlot} (h : eventSlot s id = some e) (hp : e.pending = false) (k : EventKind)
    (d cb : Nat) (p : Word) : scheduleEvent s id k d cb p =
      let u := updateSlot s id fun x => scheduledSlot s.now x k d cb p
      { u with sched := { u.sched with scheduledInPass := u.sched.scheduledInPass.map fun l => id :: l } } := by
  rw [scheduleEvent, h]
  dsimp only
  rw [hp, if_neg Bool.false_ne_true]
  cases k <;> rfl

/-- An accepted schedule sets its own slot and leaves every other alone (R1210). -/
theorem eventSlot_scheduleEvent {e : EventSlot} (h : eventSlot s id = some e) (hp : e.pending = false) (k : EventKind)
    (d cb : Nat) (p : Word) (j : Nat) : eventSlot (scheduleEvent s id k d cb p) j =
      if j = id then some (scheduledSlot s.now e k d cb p) else eventSlot s j := by
  have hslot := eventSlot_updateSlot s id (f := fun x => scheduledSlot s.now x k d cb p) (fun _ => rfl) j
  rw [h, Option.map_some] at hslot
  rw [scheduleEvent_accepted h hp]
  exact hslot

/-- Whether it is accepted or not, a schedule leaves every other slot alone (R1210, R1215). -/
theorem eventSlot_scheduleEvent_ne {j : Nat} (hj : j ≠ id) (k : EventKind) (d cb : Nat) (p : Word) :
    eventSlot (scheduleEvent s id k d cb p) j = eventSlot s j := by
  cases h : eventSlot s id with
  | none => rw [scheduleEvent_of_none h]
  | some e =>
    cases hp : e.pending with
    | true => rw [scheduleEvent_of_pending h hp]
    | false => rw [eventSlot_scheduleEvent h hp, if_neg hj]

/-- A cancel clears the pending bit of its slot and leaves every other alone (R1211). -/
theorem eventSlot_cancelEvent (s : State) (id j : Nat) : eventSlot (cancelEvent s id) j =
    if j = id then (eventSlot s id).map fun e => { e with pending := false } else eventSlot s j :=
  eventSlot_updateSlot s id (f := fun e => { e with pending := false }) (fun _ => rfl) j

end Slots

/-! ### The next wake time (R1212) -/

section WakeTime
variable {s : State}

theorem minPendingTime_eq_some {m : Nat} : minPendingTime s = some m ↔
    (∃ e ∈ s.sched.slots, e.pending = true ∧ e.time = m) ∧ ∀ e ∈ s.sched.slots, e.pending = true → m ≤ e.time := by
  have hmem : ∀ n, n ∈ (s.sched.slots.filter fun e => e.pending).map (fun e => e.time) ↔
      ∃ e ∈ s.sched.slots, e.pending = true ∧ e.time = n := by simp [and_assoc]
  rw [minPendingTime, List.min?_eq_some_iff]
  simp only [hmem]
  exact and_congr_right fun _ =>
    ⟨fun h e he hp => h _ ⟨e, he, hp, rfl⟩, fun h _ ⟨e, he, hp, ht⟩ => ht ▸ h e he hp⟩

theorem minPendingTime_eq_none : minPendingTime s = none ↔ ∀ e ∈ s.sched.slots, e.pending = false := by
  simp [minPendingTime]

/-- With an event pending within the window and its margin, the wake time is the least pending time. -/
theorem minPendingTime_of_near {e : EventSlot} (he : e ∈ s.sched.slots) (hp : e.pending = true)
    (ht : e.time < s.sched.sysTime + s.params.maxBurst + s.params.burstMargin) :
    minPendingTime s = some (nextWakeTime s) := by
  cases h : minPendingTime s with
  | none => simp [minPendingTime_eq_none.1 h e he] at hp
  | some m =>
    have hm := (minPendingTime_eq_some.1 h).2 e he hp
    rw [nextWakeTime, h]
    exact congrArg some (if_pos (hm.trans_lt ht)).symm

/-- With none, it is the end of the window. -/
theorem nextWakeTime_of_far (h : ∀ e ∈ s.sched.slots, e.pending = true →
      s.sched.sysTime + s.params.maxBurst + s.params.burstMargin ≤ e.time) :
    nextWakeTime s = s.sched.sysTime + s.params.maxBurst := by
  cases hm : minPendingTime s with
  | none => rw [nextWakeTime, hm]
  | some m =>
    obtain ⟨⟨e, he, hp, rfl⟩, -⟩ := minPendingTime_eq_some.1 hm
    rw [nextWakeTime, hm]
    exact if_neg (h e he hp).not_gt

end WakeTime

/-- Settles O57: what the updated slot list answers at each id, and the least pending time against the window. -/
theorem schedulerOperations : Obligations.SchedulerOperations := by
  refine fun s => ⟨fun id k d cb p => ⟨fun h => ?_, fun e he => ⟨?_, fun hp => ?_, rfl, ?_⟩, fun j hj => ?_⟩,
    fun e he hp ht => ?_, nextWakeTime_of_far, fun ⟨e, he, hp, ht⟩ => ?_⟩
  · exact ⟨scheduleEvent_of_none h k d cb p, updateSlot_of_none h _⟩
  · exact fun hp => scheduleEvent_of_pending he hp k d cb p
  · rw [onlySched, eventSlot_scheduleEvent he hp, if_pos rfl, scheduleEvent_accepted he hp]
    exact ⟨rfl, rfl⟩
  · rw [eventSlot_cancelEvent, if_pos rfl, he, Option.map_some]
  · rw [eventSlot_scheduleEvent_ne hj, eventSlot_cancelEvent, if_neg hj]
    exact ⟨rfl, rfl⟩
  · exact (minPendingTime_eq_some.1 (minPendingTime_of_near he hp ht)).2 e he hp
  · obtain ⟨⟨d, hd, hpend, htime⟩, -⟩ := minPendingTime_eq_some.1 (minPendingTime_of_near he hp ht)
    exact ⟨d, hd, hpend, htime.symm⟩

end Sys2Proof.Machine
end

section
/-! PROOFS. The words that the spec's examples write out (spec/30_encoding.md, spec/95_test_vectors.md): O4. -/

namespace Sys2Proof

/-- Settles O4: the decoder evaluated at each of the eight words. -/
theorem specWordsDecode : Obligations.SpecWordsDecode := ⟨rfl, rfl, rfl, rfl, rfl, rfl, rfl, rfl⟩

end Sys2Proof
end
